-- ==== Sys2Proof/Word.lean ====
section
/-! DEFINITION. The words and numberings of the FK-620 (section 1.5 of spec/00_scope.md): 32-bit words, bytes, and the
numbers of agents, contexts, cache entries, gateway tags and agent tags as bounded indices. -/

namespace Sys2Proof

/-- A 32-bit word: register values, arguments, logical addresses, addresses within a bank. -/
abbrev Word := BitVec 32

/-- One byte. -/
abbrev Byte := BitVec 8

/-- Agent ports, and the agents attached to them, 0 to 7. -/
abbrev AgentId := Fin 8

/-- Contexts 0 to 15. -/
abbrev ContextId := Fin 16

/-- Translation cache entries 0 to 63. -/
abbrev EntryId := Fin 64

/-- Gateway tags, and the credits they stand for, 0 to 15. -/
abbrev GatewayTag := Fin 16

/-- An agent's own tags 0 to 3. -/
abbrev AgentTag := Fin 4

/-- One flag for each of the nine event sources: bit `n - 1` for the source of rank `n` (R134). -/
abbrev EventMask := BitVec 9

end Sys2Proof
end

