-- ==== Sys2Proof/Config.lean ====
section
/-! DEFINITION. What the device fixes. The spec leaves no value open to an implementation and gives no instruction an
undefined result, so there is no free value here: every constant below is the spec's own. -/

namespace Sys2Proof.Config

/-- The value of the Identity register in every state (R124). -/
def identity : Word := 0x06200001

/-- The first address of device space within bank 0 (R44). -/
def deviceSpaceBase : Word := 0xF0000000

/-- DeviceConfig after power-on reset, the three fields in the register's order (R124: 0x0000_0801). -/
def resetPeriodSelect : BitVec 2 := 1
/-- The miss timeout after power-on reset (R124). -/
def resetMissTimeout : BitVec 4 := 8
/-- The reservation lifetime after power-on reset (R124). -/
def resetLifetime : BitVec 4 := 0

end Sys2Proof.Config
end

