-- ==== Sys2Proof/Syntax.lean ====
section
/-! DEFINITION. The commands of the FK-620: one constructor of `Instr` for each row of spec/opcode_table.json, in the
table's order, with the operands that the rule of the row gives it (the table lists none). -/

namespace Sys2Proof

/-- The five kinds of memory request of the agent link (R2). A Signal is not among them: see `Body`. -/
inductive AccessKind where
  | read | write | fetch | reserveRead | conditionalWrite
  deriving DecidableEq, Repr

/-- The fields of a request message other than a Signal (R2). The link carries a length of 0 to 127. -/
structure Access where
  kind : AccessKind
  addr : Word
  len  : BitVec 7
  data : List Byte
  deriving DecidableEq, Repr

/-- What a request message carries beside its tag: a memory request, or a Signal with its code (R2). -/
inductive Body where
  | access (a : Access)
  | signal (code : Byte)
  deriving DecidableEq, Repr

/-- A request message of the agent link (R2). No message carries an agent number (R1). -/
structure Message where
  tag  : AgentTag
  body : Body
  deriving DecidableEq, Repr

/-- The levels of the input pins, `true` for high; bit `n` of `agrstN` is AGRST_N[n] (section 1.3). -/
structure Pins where
  srstN     : Bool
  agrstN    : BitVec 8
  eva       : Bool
  evb       : Bool
  portReady : Bool
  deriving DecidableEq, Repr

/-- The two external event pins. -/
inductive EvPin where
  | eva | evb
  deriving DecidableEq, Repr

/-- The status of a downstream response (R109). -/
inductive MemStatus where
  | ok | error
  deriving DecidableEq, Repr

/-- The width of a host access (R121). -/
inductive AccessSize where
  | byte | half | word
  deriving DecidableEq, Repr

/-- A host access as it arrives at the 256-byte window: `offset` is the byte offset within the window (R121). -/
structure HostAccess where
  isWrite : Bool
  size    : AccessSize
  offset  : BitVec 8
  value   : Word
  deriving DecidableEq, Repr

/-- The commands. A row of the table that names an action of the decision point carries no operand: what it acts on stands
in the state. A register write carries the word written. `sameMoment` operands say what a hardware set or an epoch event of
the SAME moment does, for the rules that let it win over the host access (R122, R135, R152). -/
inductive Instr where
  | powerOnReset (pins : Pins)
  | admission (port : AgentId) (msg : Message)
  | agrstNAssertion (port : AgentId)
  | agrstNRelease (port : AgentId)
  | portResetStep
  | newAgentItemStep
  | signal
  | tagInUse
  | replayStep
  | downstreamRequest
  | downstreamResponse (gtag : GatewayTag) (status : MemStatus) (data : List Byte)
  | epochEvent
  | epochStep
  | missTimeout
  | reservationExpiry
  | backlogService
  | insertAddress
  | insertRights
  | purgeEntry
  | purgeSegment
  | purgeAll
  | readEntry
  | probe
  | bindAgent
  | unbindAgent
  | writeContext
  | readContext
  | suspendContext
  | resumeContext
  | abortParked
  | clearReservation
  | enterStandby
  | armSoftReset
  | badCommand
  | cmdIssue (value : Word)
  | resultPop (value : Word)
  | missPop (value : Word)
  | faultPop (value : Word)
  | cmdDroppedClear (value : Word) (sameMoment : Bool)
  | eventRaise (value : Word)
  | eventClear (value : Word) (sameMoment : EventMask)
  | eventPermit (value : Word)
  | deliverEnable (value : Word)
  | claim
  | complete (value : Word)
  | serviceStatusClear (value : Word)
  | extEventConfig (value : Word)
  | evPinChange (pin : EvPin) (level : Bool)
  | filteredLevelChange (pin : EvPin)
  | signalCodeRead (agent : AgentId)
  | epochStatusRead (sameMoment : Bool)
  | deviceConfig (value : Word)
  | timerControl (value : Word)
  | resetAction (value : Word)
  | timerCompare (value : Word)
  | timerStatusClear (value : Word) (sameMoment : Bool)
  | timerTick
  | intervalMatch
  | timerOverflow
  | srstNLow
  | srstNHigh
  | portReady (level : Bool)
  | hostAccessError (acc : HostAccess)
  | registerWrite (offset : BitVec 8) (value : Word)
  deriving DecidableEq, Repr

end Sys2Proof
end

