-- ==== Sys2Proof/WellFormed.lean ====
section
/-! DEFINITION. Which commands can be sent at all. The bounded types of Syntax.lean leave one link rule to check: the
amount of write data of a request message (R2). -/

namespace Sys2Proof

/-- The kinds that carry write data (R2). -/
def AccessKind.isWriteType : AccessKind → Bool
  | .write | .conditionalWrite => true
  | .read | .fetch | .reserveRead => false

/-- How many bytes of write data the link carries with a request: exactly `length` for a Write or ConditionalWrite whose
length is 1 to 64, none for any other length and for the other kinds (R2). -/
def Access.dataBytes (a : Access) : Nat :=
  if a.kind.isWriteType && decide (1 ≤ a.len.toNat) && decide (a.len.toNat ≤ 64) then a.len.toNat else 0

/-- A request the agent link can carry (R2). -/
def Access.linkOk (a : Access) : Bool := a.data.length == a.dataBytes

/-- A message the agent link can carry (R2). A Signal always is. -/
def Message.linkOk (m : Message) : Bool :=
  match m.body with
  | .access a => a.linkOk
  | .signal _ => true

/-- A command that can be sent: an offered message obeys R2. Every value of every other operand is possible. -/
def Instr.wellFormed : Instr → Bool
  | .admission _ msg => msg.linkOk
  | _ => true

end Sys2Proof
end

