-- ==== Sys2Proof/Machine/State.lean ====
section
/-! DEFINITION. The state of the gateway, block by block as section 1.2 of spec/00_scope.md names them, as plain data, and
the state after power-on reset. -/

namespace Sys2Proof.Machine

/-! ### Faults and refusals of the model -/

/-- Why the machine stops. -/
inductive Fault where
  /-- Raised by ADMISSION alone, for a message whose amount of write data the agent link cannot carry (R2). No such message
  can be offered, so the stop is safe. -/
  | linkBroken
  deriving DecidableEq, Repr

/-- Why a command has no meaning. -/
inductive Refusal where
  /-- A command whose meaning is not written. No command of this model answers with it; it would be safe. -/
  | notModelled (mnemonic : String)
  deriving DecidableEq, Repr

/-! ### Agent ports -/

/-- The fifteen fault kinds of R115. -/
inductive FaultKind where
  | malformed | tagInUse | unbound | slotEmpty | deviceSpace | miss | parkFull | missTimeout | hostAbort
  | pageType | privilege | pidMismatch | pidWriteDisabled | memoryError | resetAbort
  deriving DecidableEq, Repr

/-- An admitted item of a waiting line (R6). `seq` is the 32-bit admission sequence number; `ord` is the true admission
order, which the gateway keeps however often the counter has wrapped (R8). -/
structure Item where
  seq       : Word
  ord       : Nat
  tag       : AgentTag
  body      : Body
  malformed : Bool
  conflict  : Bool
  deriving DecidableEq, Repr

/-- One agent port: its waiting line, oldest first (R9); its tag-in-use set, bit `t` for tag `t` (R5); its flush count
(R17); the level of its AGRST_N pin; and whether its port reset step is pending at the decision point (R15, R23). The port
state is no memory of its own: see `portState` (R13). -/
structure Port where
  line         : List Item
  tags         : BitVec 4
  flush        : Nat
  resetLow     : Bool
  resetPending : Bool
  deriving DecidableEq, Repr

/-- The four states of a port (R13). -/
inductive PortState where
  | opened | held | reset | flushing
  deriving DecidableEq, Repr

/-! ### Contexts -/

/-- The mode of a context (R35). -/
inductive Mode where
  | translated | direct
  deriving DecidableEq, Repr

/-- The miss policy of a context (R35). -/
inductive MissPolicy where
  | park | fault
  deriving DecidableEq, Repr

/-- A protection-id slot (R35): pid 0 marks it unused. -/
structure PidSlot where
  pid          : BitVec 16
  writeDisable : Bool
  deriving DecidableEq, Repr

/-- A context (R35). -/
structure Context where
  segs      : Vector (BitVec 16) 4
  pids      : Vector PidSlot 4
  privilege : BitVec 2
  mode      : Mode
  policy    : MissPolicy
  suspended : Bool
  deriving DecidableEq, Repr

/-! ### Translation cache -/

/-- The key of a page (R38). -/
structure Key where
  seg : BitVec 16
  vpn : BitVec 18
  deriving DecidableEq, Repr

/-- The state of a cache entry (R55). -/
inductive EntryState where
  | empty | addressOnly | valid
  deriving DecidableEq, Repr

/-- The page type of a cache entry (R60). -/
inductive PageType where
  | dataRead | dataWrite | fetch | fetchOnly
  deriving DecidableEq, Repr

/-- A translation cache entry (R55). -/
structure Entry where
  state      : EntryState
  key        : Key
  bank       : BitVec 4
  frame      : BitVec 20
  pageType   : PageType
  readLevel  : BitVec 2
  writeLevel : BitVec 2
  pid        : BitVec 16
  pinned     : Bool
  referenced : Bool
  modified   : Bool
  deriving DecidableEq, Repr

/-- An Empty entry: every other field 0, every flag clear (R55). -/
def Entry.cleared : Entry :=
  { state := .empty, key := ⟨0, 0⟩, bank := 0, frame := 0, pageType := .dataRead, readLevel := 0, writeLevel := 0,
    pid := 0, pinned := false, referenced := false, modified := false }

/-- The translation cache with its replacement pointer (R55, R70). -/
structure TransCache where
  entries : Vector Entry 64
  pointer : EntryId
  deriving DecidableEq, Repr

/-! ### Miss parking and the decision point -/

/-- A request held off its line: what a parked record holds beside its age, and what a replay item carries (R78, R87). -/
structure MissItem where
  seq   : Word
  ord   : Nat
  agent : AgentId
  tag   : AgentTag
  ctx   : ContextId
  acc   : Access
  key   : Key
  deriving DecidableEq, Repr

/-- A parked record (R78). -/
structure Parked where
  item : MissItem
  age  : Nat
  deriving DecidableEq, Repr

/-- The report state of a miss page set member (R80). -/
inductive ReportState where
  | unreported | queued | presented | consumed
  deriving DecidableEq, Repr

/-- A member of the miss page set (R80). -/
structure Member where
  key   : Key
  state : ReportState
  deriving DecidableEq, Repr

/-- A miss report (R83). -/
structure Report where
  key       : Key
  agent     : AgentId
  ctx       : ContextId
  kind      : AccessKind
  notParked : Bool
  deriving DecidableEq, Repr

/-- What the presented latch holds (R84). -/
structure Latched where
  report   : Report
  resolved : Bool
  deriving DecidableEq, Repr

/-- The miss parking block (R77): the parked list in admission order, the miss page set, the report queue oldest first, the
presented latch and the reports-lost count. -/
structure MissBlock where
  parked  : List Parked
  members : List Member
  queue   : List Report
  latch   : Option Latched
  lost    : Nat
  deriving DecidableEq, Repr

/-- The decision point (R23) beside what stands elsewhere (pending port reset steps in the ports, credits in the outstanding
table): the round-robin pointer; the pending epoch step with its read-coincident mark (R150); the replay queue, oldest
first. -/
structure DecisionPoint where
  pointer : AgentId
  epoch   : Option Bool
  replay  : List MissItem
  deriving DecidableEq, Repr

/-! ### Reservations -/

/-- The reservation of one agent (R95): `bank` and `line` name the watched line. -/
structure Reservation where
  valid : Bool
  bank  : BitVec 4
  line  : Word
  age   : Nat
  deriving DecidableEq, Repr

/-- A clear reservation: the line and the age hold 0 (R95). -/
def Reservation.cleared : Reservation := { valid := false, bank := 0, line := 0, age := 0 }

/-! ### System port and fault log -/

/-- An outstanding record (R107). -/
structure OutRecord where
  agent    : AgentId
  tag      : AgentTag
  kind     : AccessKind
  ctx      : ContextId
  addr     : Word
  len      : BitVec 7
  orphaned : Bool
  deriving DecidableEq, Repr

/-- The kind of a downstream request (R108). -/
inductive DownKind where
  | read | write | fetch
  deriving DecidableEq, Repr

/-- A downstream request (R108); `data` is empty but for a Write. -/
structure DownRequest where
  gtag : GatewayTag
  kind : DownKind
  bank : BitVec 4
  addr : Word
  len  : BitVec 7
  data : List Byte
  deriving DecidableEq, Repr

/-- The system port (R106): the outstanding table, whose free tags are the free credits (R30); the send queue, oldest first;
and StrayResponse. -/
structure SysPort where
  table : Vector (Option OutRecord) 16
  sendq : List DownRequest
  stray : Bool
  deriving DecidableEq, Repr

/-- The request kind of a fault record: a memory request's, or Signal (R116). -/
inductive RequestKind where
  | access (k : AccessKind)
  | signal
  deriving DecidableEq, Repr

/-- A fault record (R116). -/
structure FaultRecord where
  seq   : Byte
  kind  : FaultKind
  agent : AgentId
  ctx   : Option ContextId
  tag   : AgentTag
  req   : RequestKind
  addr  : Word
  stamp : BitVec 16
  deriving DecidableEq, Repr

/-- The fault log (R117): its records, oldest first, the sequence counter and the lost count. -/
structure FaultLog where
  records : List FaultRecord
  seq     : Byte
  lost    : Nat
  deriving DecidableEq, Repr

/-! ### Command block -/

/-- The status codes of R130. -/
inductive Status where
  | ok | notFound | noFreeEntry | alreadyBound | agentBusy | badArgument | badCommand | notIdle | alreadyPending | faulted
  deriving DecidableEq, Repr

/-- An entry of the command FIFO: the kind and the four captured arguments (R127). -/
structure CmdEntry where
  kind : Byte
  args : Vector Word 4
  deriving DecidableEq, Repr

/-- A result record (R129). -/
structure ResultRecord where
  seq    : Byte
  kind   : Byte
  status : Status
  data0  : Word
  data1  : Word
  deriving DecidableEq, Repr

/-- The command block (R126). -/
structure CmdBlock where
  args    : Vector Word 4
  fifo    : List CmdEntry
  results : List ResultRecord
  seq     : Byte
  dropped : Bool
  deriving DecidableEq, Repr

/-! ### Event delivery -/

/-- The nine event sources, in rank order (R134). -/
inductive Source where
  | serviceError | extEventA | missReport | faultLogged | agentSignal | intervalMatch | commandDone | extEventB | timerOverflow
  deriving DecidableEq, Repr

/-- A service level (R133): a source in service, or idle (`none`, level 10). -/
abbrev Level := Option Source

/-- A service frame (R133). -/
structure Frame where
  level   : Level
  permits : EventMask
  deriving DecidableEq, Repr

/-- The polarity of a detector (R143). -/
inductive Polarity where
  | rising | falling
  deriving DecidableEq, Repr

/-- The filter of a detector (R142): idle, or a candidate level and the whole TBCLK periods, 0 or 1, the pin has held it. -/
inductive Filter where
  | idle
  | counting (candidate : Bool) (periods : Fin 2)
  deriving DecidableEq, Repr

/-- An external event detector (R133, R142), with the level of its pin. -/
structure Detector where
  polarity : Polarity
  filtered : Bool
  filter   : Filter
  pin      : Bool
  deriving DecidableEq, Repr

/-- A signal mailbox (R145). -/
structure Mailbox where
  code    : Byte
  count   : Nat
  pending : Bool
  deriving DecidableEq, Repr

/-- The event delivery block (R133). `stack` has the newest frame first. -/
structure EventBlock where
  requests  : EventMask
  permits   : EventMask
  deliver   : Bool
  level     : Level
  stack     : List Frame
  overflow  : Bool
  underflow : Bool
  eva       : Detector
  evb       : Detector
  mail      : Vector Mailbox 8
  deriving DecidableEq, Repr

/-! ### Epoch generator, interval timer, configuration, power control -/

/-- The epoch generator (R148). `readNow` is the model's own: a host read of EpochStatus was served at the moment of the
epoch event that comes next (R152). -/
structure EpochGen where
  divider : Nat
  count   : BitVec 16
  flag    : Bool
  armed   : Bool
  readNow : Bool
  deriving DecidableEq, Repr

/-- The clock select of the interval timer (R153). -/
inductive TimerClock where
  | us1 | us16 | us256 | epoch
  deriving DecidableEq, Repr

/-- The mode of the interval timer (R153). -/
inductive TimerMode where
  | modulo | freeRun
  deriving DecidableEq, Repr

/-- The interval timer (R153). -/
structure Timer where
  count     : BitVec 12
  compare   : BitVec 12
  clock     : TimerClock
  mode      : TimerMode
  run       : Bool
  prescaler : Nat
  overflow  : Bool
  deriving DecidableEq, Repr

/-- The fields of DeviceConfig (R124). -/
structure DevConfig where
  periodSelect : BitVec 2
  missTimeout  : BitVec 4
  lifetime     : BitVec 4
  deriving DecidableEq, Repr

/-- The device state (R157). -/
inductive DeviceState where
  | operational | standby | waking
  deriving DecidableEq, Repr

/-- The reset and power control block (R157) with the level of the PORT_READY pin. Hold is set exactly while SRST_N is low
(R159), so the one bit is both. -/
structure Power where
  device        : DeviceState
  hold          : Bool
  resetArmed    : Bool
  softResetSeen : Bool
  portReady     : Bool
  deriving DecidableEq, Repr

/-! ### What the gateway sends out -/

/-- The outcome of a response (R4); `data` is empty but for a read-type kind. -/
inductive Outcome where
  | done (data : List Byte)
  | condFail
  | fault (kind : FaultKind)
  deriving DecidableEq, Repr

/-- One thing the gateway sends: a response to an agent (R4), a downstream request the interconnect accepted (R108), the
value of a host read, the normal response to a host write, or an error response on the host link (R121). -/
inductive Out where
  | response (port : AgentId) (tag : AgentTag) (outcome : Outcome)
  | downstream (request : DownRequest)
  | readData (offset : BitVec 8) (value : Word)
  | writeDone
  | accessError
  deriving DecidableEq, Repr

/-! ### The whole -/

/-- The gateway. `admSeq` is the admission sequence counter (R8) and `admOrder` the model's own count of admissions, which
keeps the order that R8 keeps; `out` is the model's own record of what the gateway has sent, oldest first; `pending` is the
queue of the commands that wait, oldest first. -/
structure State where
  ports    : Vector Port 8
  admSeq   : Word
  admOrder : Nat
  dp       : DecisionPoint
  contexts : Vector Context 16
  bindings : Vector (Option ContextId) 8
  cache    : TransCache
  miss     : MissBlock
  resv     : Vector Reservation 8
  sys      : SysPort
  log      : FaultLog
  cmd      : CmdBlock
  ev       : EventBlock
  epoch    : EpochGen
  timer    : Timer
  config   : DevConfig
  power    : Power
  out      : List Out
  pending  : List Instr
  deriving DecidableEq, Repr

/-! ### Power-on values -/

/-- A port after power-on reset with its AGRST_N pin high (R20). -/
def Port.initial : Port := { line := [], tags := 0, flush := 0, resetLow := false, resetPending := false }

/-- A context after power-on reset (R37). -/
def Context.initial : Context :=
  { segs := Vector.replicate 4 0, pids := Vector.replicate 4 ⟨0, false⟩, privilege := 3, mode := .translated,
    policy := .park, suspended := false }

/-- A mailbox after either reset (R133). -/
def Mailbox.initial : Mailbox := { code := 0, count := 0, pending := false }

/-- A detector after power-on reset with its pin at the level `pin` (R142, R158). -/
def Detector.initial (pin : Bool) : Detector := { polarity := .rising, filtered := pin, filter := .idle, pin := pin }

/-- The machine right after power-on reset, as section 12.6 of spec/11_reset_hold_and_standby.md gathers it, with SRST_N and
every AGRST_N high and EVA, EVB and PORT_READY low. The spec gives the pins no level: DESIGN CHOICE, unsafe
(notes/assumptions/1.md). -/
def State.reset : State where
  ports := Vector.replicate 8 Port.initial
  admSeq := 0
  admOrder := 0
  dp := { pointer := 0, epoch := none, replay := [] }
  contexts := Vector.replicate 16 Context.initial
  bindings := Vector.replicate 8 none
  cache := { entries := Vector.replicate 64 Entry.cleared, pointer := 0 }
  miss := { parked := [], members := [], queue := [], latch := none, lost := 0 }
  resv := Vector.replicate 8 Reservation.cleared
  sys := { table := Vector.replicate 16 none, sendq := [], stray := false }
  log := { records := [], seq := 0, lost := 0 }
  cmd := { args := Vector.replicate 4 0, fifo := [], results := [], seq := 0, dropped := false }
  ev := { requests := 0, permits := 0, deliver := false, level := none, stack := [], overflow := false, underflow := false,
          eva := Detector.initial false, evb := Detector.initial false, mail := Vector.replicate 8 Mailbox.initial }
  epoch := { divider := 0, count := 0, flag := false, armed := false, readNow := false }
  timer := { count := 0, compare := 4095, clock := .us1, mode := .modulo, run := false, prescaler := 0, overflow := false }
  config := { periodSelect := Config.resetPeriodSelect, missTimeout := Config.resetMissTimeout,
              lifetime := Config.resetLifetime }
  power := { device := .operational, hold := false, resetArmed := false, softResetSeen := false, portReady := false }
  out := []
  pending := []

end Sys2Proof.Machine
end

