-- ==== Sys2Proof/Machine/Operands.lean ====
section
/-! DEFINITION. Reading operands: codes of kinds, the form checks of a request, the parts of an address, the arguments of a
host command, and the packing of register fields. -/

namespace Sys2Proof.Machine

/-! ### Vectors -/

/-- Applies `f` to each element, with its index (written with `Vector.ofFn` so that the kernel can evaluate it). -/
def mapIdx {α β : Type} {n : Nat} (f : Fin n → α → β) (v : Vector α n) : Vector β n := Vector.ofFn fun i => f i v[i]

/-- The lowest index whose element satisfies `p`. -/
def findIdx {α : Type} {n : Nat} (p : α → Bool) (v : Vector α n) : Option (Fin n) :=
  (List.finRange n).find? fun i => p v[i]

/-- How many elements satisfy `p`. -/
def countIdx {α : Type} {n : Nat} (p : α → Bool) (v : Vector α n) : Nat := (List.finRange n).countP fun i => p v[i]

/-- A saturating increment: a count at its maximum stays there (section 1.5). -/
def satInc (max n : Nat) : Nat := if n < max then n + 1 else n

/-! ### Codes -/

end Sys2Proof.Machine

namespace Sys2Proof

/-- Read, Fetch and ReserveRead are the read-type kinds (R2). -/
def AccessKind.isReadType (k : AccessKind) : Bool := !k.isWriteType

/-- ReserveRead and ConditionalWrite: the kinds that act on their agent's own reservation (R97, R98). -/
def AccessKind.usesReservation : AccessKind → Bool
  | .reserveRead | .conditionalWrite => true
  | .read | .write | .fetch => false

/-- The code of a request kind in commands and records (R65, R116). -/
def AccessKind.code : AccessKind → Nat
  | .read => 0 | .write => 1 | .fetch => 2 | .reserveRead => 3 | .conditionalWrite => 4

/-- The kind a Probe argument names (R65). -/
def AccessKind.ofCode : Nat → Option AccessKind
  | 0 => some .read | 1 => some .write | 2 => some .fetch | 3 => some .reserveRead | 4 => some .conditionalWrite
  | _ => none

end Sys2Proof

namespace Sys2Proof.Machine

/-- The request kind code of a fault record: Probe's codes, with 5 for Signal (R116). -/
def RequestKind.code : RequestKind → Nat
  | .access k => k.code
  | .signal => 5

/-- The code of a fault kind (R115). -/
def FaultKind.code : FaultKind → Nat
  | .malformed => 1 | .tagInUse => 2 | .unbound => 3 | .slotEmpty => 4 | .deviceSpace => 5 | .miss => 6 | .parkFull => 7
  | .missTimeout => 8 | .hostAbort => 9 | .pageType => 10 | .privilege => 11 | .pidMismatch => 12
  | .pidWriteDisabled => 13 | .memoryError => 14 | .resetAbort => 15

/-- The code of a status (R130). -/
def Status.code : Status → Nat
  | .ok => 0 | .notFound => 1 | .noFreeEntry => 2 | .alreadyBound => 3 | .agentBusy => 4 | .badArgument => 5
  | .badCommand => 6 | .notIdle => 7 | .alreadyPending => 8 | .faulted => 9

/-- The value of a page type in commands and in ReadEntry (R60). -/
def PageType.code : PageType → Nat
  | .dataRead => 0 | .dataWrite => 1 | .fetch => 2 | .fetchOnly => 3

/-- The page type a command argument names (R60, R65). -/
def PageType.ofCode : Nat → Option PageType
  | 0 => some .dataRead | 1 => some .dataWrite | 2 => some .fetch | 3 => some .fetchOnly
  | _ => none

/-- The code of an entry's state in ReadEntry (R74). -/
def EntryState.code : EntryState → Nat
  | .empty => 0 | .addressOnly => 1 | .valid => 2

/-- The code of a port state in PortStatus (R124). -/
def PortState.code : PortState → Nat
  | .opened => 0 | .held => 1 | .reset => 2 | .flushing => 3

/-- The code of the device state in DeviceStatus (R124). -/
def DeviceState.code : DeviceState → Nat
  | .operational => 0 | .standby => 1 | .waking => 2

/-- The code of a mode as a context field (R51). -/
def Mode.code : Mode → Nat
  | .translated => 0 | .direct => 1

/-- The code of a miss policy as a context field (R51). -/
def MissPolicy.code : MissPolicy → Nat
  | .park => 0 | .fault => 1

/-- The code of a clock select in TimerControl (R125). -/
def TimerClock.code : TimerClock → Nat
  | .us1 => 0 | .us16 => 1 | .us256 => 2 | .epoch => 3

/-- The clock a TimerControl field selects (R125). -/
def TimerClock.ofBits (b : BitVec 2) : TimerClock :=
  if b = 0 then .us1 else if b = 1 then .us16 else if b = 2 then .us256 else .epoch

/-! ### The form of a request -/

/-- The bytes from `addr` to `addr + n - 1` lie in one naturally aligned 64-byte block. -/
def oneBlock (addr n : Nat) : Bool := decide (addr / 64 = (addr + n - 1) / 64)

end Sys2Proof.Machine

namespace Sys2Proof

open Machine in
/-- The form checks of the port, by kind (R3); a request that fails them carries the malformed mark. -/
def Access.formOk (a : Access) : Bool :=
  let n := a.len.toNat
  let at' := a.addr.toNat
  match a.kind with
  | .read | .write => decide (1 ≤ n ∧ n ≤ 64) && oneBlock at' n
  | .fetch => decide (4 ≤ n ∧ n ≤ 64 ∧ n % 4 = 0 ∧ at' % 4 = 0) && oneBlock at' n
  | .reserveRead | .conditionalWrite => decide ((n = 4 ∨ n = 8) ∧ at' % n = 0)

/-- The malformed mark of a message; a Signal is never malformed (R3). -/
def Body.malformed : Body → Bool
  | .access a => !a.formOk
  | .signal _ => false

end Sys2Proof

namespace Sys2Proof.Machine

/-! ### The parts of an address -/

/-- The slot number: the top two bits of a logical address (R38). -/
def slotOf (addr : Word) : Fin 4 := (addr.extractLsb' 30 2).toFin

/-- The virtual page number (R38). -/
def vpnOf (addr : Word) : BitVec 18 := addr.extractLsb' 12 18

/-- The page offset (R38). -/
def pageOffset (addr : Word) : BitVec 12 := addr.extractLsb' 0 12

/-- The address within the bank: the frame number times 4096 plus the page offset (R42). -/
def frameAddr (frame : BitVec 20) (addr : Word) : Word := frame ++ pageOffset addr

/-- The frame an address within a bank lies in. -/
def frameOf (addr : Word) : BitVec 20 := addr.extractLsb' 12 20

/-- The first byte of the 32-byte line an address lies in (R96). -/
def lineOf (addr : Word) : Word := (addr >>> 5) <<< 5

/-- A physical address lies in device space (R44). -/
def inDeviceSpace (bank : BitVec 4) (addr : Word) : Bool := bank == 0 && decide (Config.deviceSpaceBase ≤ addr)

/-! ### Command arguments -/

/-- The value of the argument in bits 15 to 0 of a shared register (R128). -/
def lowHalf (w : Word) : Nat := (w.extractLsb' 0 16).toNat

/-- The value of the argument in bits 31 to 16 of a shared register (R128). -/
def highHalf (w : Word) : Nat := (w.extractLsb' 16 16).toNat

/-- A segment id argument: 1 to 0xFFFF, compared as a number and never truncated (R65). -/
def segArg (w : Word) : Option (BitVec 16) :=
  if 1 ≤ w.toNat ∧ w.toNat ≤ 0xFFFF then some (w.setWidth 16) else none

/-- A vpn argument: 0 to 0x3_FFFF (R65). -/
def vpnArg (w : Word) : Option (BitVec 18) := if w.toNat ≤ 0x3FFFF then some (w.setWidth 18) else none

/-- A key argument: the segment id, then the vpn (R65). -/
def keyArg (seg vpn : Word) : Option Key :=
  match segArg seg, vpnArg vpn with
  | some s, some v => some ⟨s, v⟩
  | _, _ => none

/-- A frame argument: 0 to 0xF_FFFF (R65). -/
def frameArg (w : Word) : Option (BitVec 20) := if w.toNat ≤ 0xFFFFF then some (w.setWidth 20) else none

/-- An argument with the range 0 to `n - 1`. -/
def finArg (n : Nat) (v : Nat) : Option (Fin n) := if h : v < n then some ⟨v, h⟩ else none

/-- A flag argument: 0 or 1 (R65). -/
def flagArg (v : Nat) : Option Bool := if v = 0 then some false else if v = 1 then some true else none

/-- A level argument: 0 to 3 (R65). -/
def levelArg (v : Nat) : Option (BitVec 2) := if v ≤ 3 then some (BitVec.ofNat 2 v) else none

/-! ### Register fields -/

/-- The number `n` as a register field whose lowest bit is `lo`. -/
def field (n lo : Nat) : Word := BitVec.ofNat 32 n <<< lo

/-- A flag as bit `lo` of a register. -/
def bit (b : Bool) (lo : Nat) : Word := field b.toNat lo

/-- The event mask of a register's bits 9 to 1 (R125). -/
def maskOfWord (w : Word) : EventMask := w.extractLsb' 1 9

/-- An event mask as a register's bits 9 to 1 (R125). -/
def wordOfMask (m : EventMask) : Word := m.setWidth 32 <<< 1

end Sys2Proof.Machine
end

