-- ==== Sys2Proof/Machine/Flags.lean ====
section
/-! DEFINITION. Every flag computation: event request flags, eligibility and the HIRQ condition; write-one-to-clear bits;
the Referenced and Modified flags of a cache entry. -/

namespace Sys2Proof.Machine

/-! ### Event flags -/

/-- The rank of a source, which is also its vector (R134). -/
def Source.rank : Source → Nat
  | .serviceError => 1 | .extEventA => 2 | .missReport => 3 | .faultLogged => 4 | .agentSignal => 5
  | .intervalMatch => 6 | .commandDone => 7 | .extEventB => 8 | .timerOverflow => 9

/-- The sources in rank order, highest rank first (R134). -/
def Source.all : List Source :=
  [.serviceError, .extEventA, .missReport, .faultLogged, .agentSignal, .intervalMatch, .commandDone, .extEventB,
   .timerOverflow]

/-- The flag of a source in an event mask. -/
def Source.bit (x : Source) : EventMask := 1#9 <<< (x.rank - 1)

/-- The flag of a source is set in a mask. -/
def Source.isIn (x : Source) (m : EventMask) : Bool := m.getLsbD (x.rank - 1)

/-- The number of a service level: a rank, or 10 for idle (R133). -/
def levelRank : Level → Nat
  | none => 10
  | some x => x.rank

/-- To raise a source is to set its request flag, and nothing else (R134). -/
def EventBlock.raise (e : EventBlock) (x : Source) : EventBlock := { e with requests := e.requests ||| x.bit }

/-- Eligibility of a source (R136). -/
def EventBlock.eligible (e : EventBlock) (x : Source) : Bool :=
  x.isIn e.requests && x.isIn e.permits && decide (x.rank < levelRank e.level)

/-- The highest eligible source: the eligible source of smallest rank (R136). -/
def EventBlock.highest (e : EventBlock) : Option Source := Source.all.find? e.eligible

/-- The level of the HIRQ line (R136). -/
def EventBlock.hirq (e : EventBlock) : Bool := e.deliver && e.highest.isSome

/-! ### Write-one-to-clear bits -/

/-- A write-one-to-clear bit after a write: cleared by a 1, unless its cause sets it at the same moment (R122). -/
def w1c (old written setNow : Bool) : Bool := (old && !written) || setNow

/-! ### Entry flags -/

/-- What a request that passes every check and is issued sets in its entry (R63). -/
def Entry.markIssued (e : Entry) (k : AccessKind) : Entry :=
  { e with referenced := true, modified := e.modified || k.isWriteType }

/-- What a ConditionalWrite that ends as CondFail sets in its entry (R63). -/
def Entry.markCondFail (e : Entry) : Entry := { e with referenced := true }

end Sys2Proof.Machine
end

