-- ==== Sys2Proof/Machine/Ops.lean ====
section
/-! DEFINITION. The named operations over the state that the meanings share: raising a source, sending, the port state and
tags, responses, fault records, credits, reservations, the wake of the device. -/

namespace Sys2Proof.Machine

/-- Sends one thing. -/
def State.emit (s : State) (o : Out) : State := { s with out := s.out ++ [o] }

/-- Raises an event source (R134). -/
def State.raise (s : State) (x : Source) : State := { s with ev := s.ev.raise x }

/-- Changes one port. -/
def State.setPort (s : State) (n : AgentId) (f : Port → Port) : State :=
  { s with ports := s.ports.set n (f s.ports[n]) }

/-! ### Ports, tags and responses -/

/-- The state of a port: the first row of R13 whose condition holds. -/
def State.portState (s : State) (n : AgentId) : PortState :=
  if s.ports[n].resetLow || s.ports[n].resetPending then .reset
  else if 0 < s.ports[n].flush then .flushing
  else if s.power.hold then .held
  else .opened

/-- The flag of a tag in a tag-in-use set (R5). -/
def tagBit (t : AgentTag) : BitVec 4 := 1#4 <<< t.val

/-- A tag is in use at a port (R5). -/
def Port.uses (p : Port) (t : AgentTag) : Bool := p.tags.getLsbD t.val

/-- A tag joins a port's set (R5). -/
def Port.occupy (p : Port) (t : AgentTag) : Port := { p with tags := p.tags ||| tagBit t }

/-- A tag leaves a port's set (R5). -/
def Port.release (p : Port) (t : AgentTag) : Port := { p with tags := p.tags &&& ~~~tagBit t }

/-- How many tags a port's set holds (R49). -/
def Port.tagCount (p : Port) : Nat := (List.finRange 4).countP fun t => p.uses t

/-- Sends a response, or discards it where the port is in the Reset state (R12); the tag set is `respond`'s. -/
def State.sendResponse (s : State) (n : AgentId) (t : AgentTag) (o : Outcome) : State :=
  if s.portState n = .reset then s else s.emit (.response n t o)

/-- A request finishes: its response is sent or discarded, and in either case its tag leaves the set (R12). -/
def State.respond (s : State) (n : AgentId) (t : AgentTag) (o : Outcome) : State :=
  (s.sendResponse n t o).setPort n (·.release t)

/-! ### Fault log -/

/-- Adds a fault record, or drops it where the log holds 16; the sequence number is used either way (R117). -/
def State.addFault (s : State) (kind : FaultKind) (agent : AgentId) (ctx : Option ContextId) (tag : AgentTag)
    (req : RequestKind) (addr : Word) : State :=
  if s.log.records.length < 16 then
    { s with
      log := { s.log with
        records := s.log.records ++
          [{ seq := s.log.seq, kind := kind, agent := agent, ctx := ctx, tag := tag, req := req, addr := addr,
             stamp := s.epoch.count }]
        seq := s.log.seq + 1 }
      ev := s.ev.raise .faultLogged }
  else
    { s with
      log := { s.log with seq := s.log.seq + 1, lost := satInc 255 s.log.lost }
      ev := s.ev.raise .serviceError }

/-- A request ends with a response Fault and a fault record of the same kind (R115). -/
def State.finishFault (s : State) (kind : FaultKind) (agent : AgentId) (ctx : Option ContextId) (tag : AgentTag)
    (acc : Access) : State :=
  (s.respond agent tag (.fault kind)).addFault kind agent ctx tag (.access acc.kind) acc.addr

/-! ### Credits -/

/-- The lowest-numbered free gateway tag, the credit a request step takes (R30). -/
def State.freeTag (s : State) : Option GatewayTag := findIdx (·.isNone) s.sys.table

/-- At least one credit is free (R30). -/
def State.creditFree (s : State) : Bool := s.freeTag.isSome

/-- No gateway tag is held (R161, R163). -/
def State.allCreditsFree (s : State) : Bool := (List.finRange 16).all fun g => s.sys.table[g].isNone

/-! ### Reservations -/

/-- Clears one agent's reservation (R95). -/
def State.clearReservation (s : State) (n : AgentId) : State := { s with resv := s.resv.set n Reservation.cleared }

/-- Clears every valid reservation that satisfies `p`. -/
def State.clearReservationsWhere (s : State) (p : AgentId → Reservation → Bool) : State :=
  { s with resv := mapIdx (fun n r => if r.valid && p n r then Reservation.cleared else r) s.resv }

/-- Clears the reservations of a frame, those of every agent whose line lies in it (R66). -/
def State.clearFrame (s : State) (bank : BitVec 4) (frame : BitVec 20) : State :=
  s.clearReservationsWhere fun _ r => r.bank == bank && frameOf r.line == frame

/-! ### Device state -/

/-- The device becomes or stays Waking, and Operational at once where PORT_READY is high (R114, R162). -/
def Power.toWaking (p : Power) : Power :=
  { p with device := if p.portReady then .operational else .waking }

/-- An action that wakes the device: in Standby the state becomes Waking (R164). -/
def State.wake (s : State) : State :=
  if s.power.device = .standby then { s with power := s.power.toWaking } else s

/-- The level of the HIRQ line (R136). -/
def State.hirq (s : State) : Bool := s.ev.hirq

/-- The level of the PORT_SLEEP output, asserted exactly in Standby (R114). -/
def State.portSleep (s : State) : Bool := decide (s.power.device = .standby)

end Sys2Proof.Machine
end

