-- ==== Sys2Proof/Machine/Translate.lean ====
section
/-! DEFINITION. Address formation, the lookup and the order of checks (R38 to R44, R59 to R62), as one function of a
context, the cache entries, a request kind and a logical address. Request steps and Probe both use it. -/

namespace Sys2Proof.Machine

/-- The key a logical address forms in a context (R38). -/
def Context.keyOf (c : Context) (addr : Word) : Key := ⟨c.segs[slotOf addr], vpnOf addr⟩

/-- The Valid entry that holds a key, the lookup of R59. -/
def lookup (entries : Vector Entry 64) (k : Key) : Option EntryId :=
  findIdx (fun e => decide (e.state = .valid) && decide (e.key = k)) entries

/-- The non-Empty entry that holds a key (R57). -/
def holder (entries : Vector Entry 64) (k : Key) : Option EntryId :=
  findIdx (fun e => decide (e.state ≠ .empty) && decide (e.key = k)) entries

/-- The kinds a page type allows (R60). -/
def PageType.allows : PageType → AccessKind → Bool
  | .dataRead, .read | .dataRead, .reserveRead => true
  | .dataRead, .write | .dataRead, .fetch | .dataRead, .conditionalWrite => false
  | .dataWrite, .fetch => false
  | .dataWrite, .read | .dataWrite, .write | .dataWrite, .reserveRead | .dataWrite, .conditionalWrite => true
  | .fetch, .read | .fetch, .fetch => true
  | .fetch, .write | .fetch, .reserveRead | .fetch, .conditionalWrite => false
  | .fetchOnly, .fetch => true
  | .fetchOnly, .read | .fetchOnly, .write | .fetchOnly, .reserveRead | .fetchOnly, .conditionalWrite => false

/-- The level the Privilege check compares: RL for a read-type request, WL for a write-type one (R61). -/
def Entry.levelFor (e : Entry) (k : AccessKind) : BitVec 2 := if k.isWriteType then e.writeLevel else e.readLevel

/-- The matching protection-id slot of a page's pid: the lowest-numbered slot holding it, among those in use (R35). -/
def Context.pidSlot (c : Context) (pid : BitVec 16) : Option (Fin 4) :=
  findIdx (fun p => decide (p.pid ≠ 0) && decide (p.pid = pid)) c.pids

/-- The four entry checks, in order; the first failure is reported (R60 to R62). -/
def Entry.check (e : Entry) (c : Context) (k : AccessKind) : Option FaultKind :=
  if !e.pageType.allows k then some .pageType
  else if ¬ c.privilege ≤ e.levelFor k then some .privilege
  else if e.pid = 0 then none
  else match c.pidSlot e.pid with
    | none => some .pidMismatch
    | some i => if k.isWriteType && c.pids[i].writeDisable then some .pidWriteDisabled else none

/-- The DeviceSpace check fails (R44). -/
def Context.deviceSpaceFails (c : Context) (bank : BitVec 4) (addr : Word) : Bool :=
  inDeviceSpace bank addr && decide (c.privilege ≠ 0)

/-- How the checks that follow Unbound and Malformed end: all passed, with the physical address and the matching entry; a
miss, with its key; or a fault, with the entry where the failure came after a hit (R39, R75). -/
inductive Verdict where
  | pass (bank : BitVec 4) (addr : Word) (hit : Option EntryId)
  | miss (key : Key)
  | fault (kind : FaultKind) (hit : Option EntryId)
  deriving DecidableEq, Repr

/-- The checks of Direct mode after Malformed: DeviceSpace on the logical address in bank 0 (R43, R44). -/
def Context.checkDirect (c : Context) (addr : Word) : Verdict :=
  if c.deviceSpaceFails 0 addr then .fault .deviceSpace none else .pass 0 addr none

/-- The checks of Translated mode that follow a hit: the entry checks, then DeviceSpace (R39, R42). -/
def Context.checkHit (c : Context) (e : Entry) (i : EntryId) (k : AccessKind) (addr : Word) : Verdict :=
  match e.check c k with
  | some f => .fault f (some i)
  | none =>
    if c.deviceSpaceFails e.bank (frameAddr e.frame addr) then .fault .deviceSpace (some i)
    else .pass e.bank (frameAddr e.frame addr) (some i)

/-- The checks of a request after Unbound and Malformed, in the order of R39. -/
def Context.checks (c : Context) (entries : Vector Entry 64) (k : AccessKind) (addr : Word) : Verdict :=
  match c.mode with
  | .direct => c.checkDirect addr
  | .translated =>
    if c.segs[slotOf addr] = 0 then .fault .slotEmpty none
    else match lookup entries (c.keyOf addr) with
      | none => .miss (c.keyOf addr)
      | some i => c.checkHit entries[i] i k addr

end Sys2Proof.Machine
end

