-- ==== Sys2Proof/Machine/Parking.lean ====
section
/-! DEFINITION. The miss parking block: the parked list, the miss page set, the report queue and the presented latch, with
parking, withdrawal, the backlog and the removal of records (R77 to R92). -/

namespace Sys2Proof.Machine

/-! ### Reports -/

/-- The report made from a parked request (R83). -/
def MissItem.report (r : MissItem) : Report :=
  { key := r.key, agent := r.agent, ctx := r.ctx, kind := r.acc.kind, notParked := false }

/-- The key has a member in the miss page set (R80). -/
def MissBlock.hasMember (m : MissBlock) (k : Key) : Bool := m.members.any fun x => decide (x.key = k)

/-- Some parked record holds the key. -/
def MissBlock.hasRecord (m : MissBlock) (k : Key) : Bool := m.parked.any fun p => decide (p.item.key = k)

/-- Moves the member of a key to a report state (R80). -/
def MissBlock.setMember (m : MissBlock) (k : Key) (st : ReportState) : MissBlock :=
  { m with members := m.members.map fun x => if x.key = k then { x with state := st } else x }

/-- Where the latch is empty and the queue is not, the head of the queue moves into the latch; a member's report makes its
member Presented (R84). -/
def MissBlock.present (m : MissBlock) : MissBlock :=
  match m.latch, m.queue with
  | none, r :: rest =>
    let m' := { m with latch := some ⟨r, false⟩, queue := rest }
    if r.notParked then m' else m'.setMember r.key .presented
  | _, _ => m

/-- A report enters the queue at its tail, and moves on into an empty latch in the same moment (R83, R84). -/
def MissBlock.enter (m : MissBlock) (r : Report) : MissBlock :=
  MissBlock.present { m with queue := m.queue ++ [r] }

/-! ### The backlog -/

/-- The parked record whose member the backlog reports next: the first, in parked-list order, whose member is Unreported
(R86). -/
def MissBlock.backlogHead (m : MissBlock) : Option Parked :=
  m.parked.find? fun p => m.members.any fun x => decide (x.key = p.item.key) && decide (x.state = .unreported)

/-- Reports one Unreported member: it becomes Queued and its report enters the queue (R86). -/
def MissBlock.reportMember (m : MissBlock) (p : Parked) : MissBlock :=
  (m.setMember p.item.key .queued).enter p.item.report

/-- Serves the backlog until the queue is full or the backlog is empty, for at most `n` members; answers whether a report
entered (R86). -/
def MissBlock.serve : Nat → MissBlock → MissBlock × Bool
  | 0, m => (m, false)
  | n + 1, m =>
    if m.queue.length < 8 then
      match m.backlogHead with
      | none => (m, false)
      | some p => ((MissBlock.serve n (m.reportMember p)).1, true)
    else (m, false)

/-- The service of the backlog at the end of a step or of a MissPop, with its MissReport (R86). -/
def State.serveBacklog (s : State) : State :=
  let r := s.miss.serve s.miss.members.length
  { s with miss := r.1, ev := if r.2 then s.ev.raise .missReport else s.ev }

/-! ### Parking -/

/-- Places a record by its admission order (R79). -/
def insertByOrder (p : Parked) : List Parked → List Parked
  | [] => [p]
  | q :: qs => if p.item.ord < q.item.ord then p :: q :: qs else q :: insertByOrder p qs

/-- A member is made in the given report state (R80). -/
def MissBlock.addMember (m : MissBlock) (k : Key) (st : ReportState) : MissBlock :=
  { m with members := m.members ++ [⟨k, st⟩] }

/-- Parks a request: the record is placed, and a key without a member gets one, Queued with its report where the queue has
room and Unreported where it has not; answers whether a report entered (R81 steps 2 to 4, R89). -/
def MissBlock.park (m : MissBlock) (r : MissItem) : MissBlock × Bool :=
  let m' := { m with parked := insertByOrder ⟨r, 0⟩ m.parked }
  if m.hasMember r.key then (m', false)
  else if m.queue.length < 8 then ((m'.addMember r.key .queued).enter r.report, true)
  else (m'.addMember r.key .unreported, false)

/-- Parks a request, raising MissReport where its report entered the queue (R81, R89). -/
def State.park (s : State) (r : MissItem) : State :=
  let p := s.miss.park r
  { s with miss := p.1, ev := if p.2 then s.ev.raise .missReport else s.ev }

/-- A miss under the Fault policy reports itself where the queue has room and the key has no member, and is counted as lost
elsewhere (R82). -/
def State.reportNotParked (s : State) (r : Report) : State :=
  if decide (s.miss.queue.length < 8) && !s.miss.hasMember r.key then
    { s with miss := s.miss.enter r, ev := s.ev.raise .missReport }
  else { s with miss := { s.miss with lost := satInc 255 s.miss.lost } }

/-! ### Removal and withdrawal -/

/-- The latch after the members without a record have left: a member's report becomes Resolved (R85). -/
def Latched.withdraw (l : Latched) (gone : Key → Bool) : Latched :=
  if !l.report.notParked && gone l.report.key then { l with resolved := true } else l

/-- Removes the parked records that satisfy `p`. A member left with no record leaves the set; its report is withdrawn from
the queue or marked Resolved in the latch (R80, R85). -/
def MissBlock.remove (m : MissBlock) (p : Parked → Bool) : MissBlock :=
  let keep := m.parked.filter fun q => !p q
  let gone : Key → Bool := fun k => !keep.any fun q => decide (q.item.key = k)
  { m with
    parked := keep
    members := m.members.filter fun x => !gone x.key
    queue := m.queue.filter fun r => r.notParked || !gone r.key
    latch := m.latch.map fun l => l.withdraw gone }

/-- The record is parked under the key. -/
def Parked.under (k : Key) (p : Parked) : Bool := decide (p.item.key = k)

/-- Releases a key: its records move to the tail of the replay queue in parked-list order, and its member leaves (R87). -/
def State.releaseKey (s : State) (k : Key) : State :=
  { s with
    miss := s.miss.remove (·.under k)
    dp := { s.dp with replay := s.dp.replay ++ (s.miss.parked.filter (·.under k)).map (·.item) } }

/-- Finishes a parked record with a fault: response and fault record (R90, R91). -/
def State.finishParked (s : State) (kind : FaultKind) (p : Parked) : State :=
  s.finishFault kind p.item.agent (some p.item.ctx) p.item.tag p.item.acc

/-! ### MissPop -/

/-- MissPop, parts 1 to 4: the latch is emptied, its member becomes Consumed, and the head of the queue moves into the latch.
A report that is Resolved or NotParked belongs to no member (R84). -/
def MissBlock.pop (m : MissBlock) : MissBlock :=
  match m.latch with
  | none => m
  | some l =>
    let m' := if l.resolved || l.report.notParked then m else m.setMember l.report.key .consumed
    MissBlock.present { m' with latch := none }

/-- MissPop: ignored where the latch is empty; else parts 1 to 4, then the backlog is served (R84, R86). -/
def State.missPop (s : State) : State :=
  if s.miss.latch.isSome then State.serveBacklog { s with miss := s.miss.pop } else s

end Sys2Proof.Machine
end

