-- ==== Sys2Proof/Machine/Requests.lean ====
section
/-! DEFINITION. The decision of a request: the checks, parking, faulting, the reservation action and issue (R31, R39, R81,
R82, R97 to R99, R107, R108). -/

namespace Sys2Proof.Machine

/-- A request at its decision step, whether a new agent item or a replay item (R31). -/
structure Request where
  seq       : Word
  ord       : Nat
  agent     : AgentId
  tag       : AgentTag
  acc       : Access
  malformed : Bool
  deriving DecidableEq, Repr

/-- A replay item as a request; its malformed mark is clear (R78, R88). -/
def MissItem.request (r : MissItem) : Request :=
  { seq := r.seq, ord := r.ord, agent := r.agent, tag := r.tag, acc := r.acc, malformed := false }

/-- A request that misses, as a parked record holds it (R78, R89). -/
def Request.missItem (r : Request) (ctx : ContextId) (key : Key) : MissItem :=
  { seq := r.seq, ord := r.ord, agent := r.agent, tag := r.tag, ctx := ctx, acc := r.acc, key := key }

/-! ### Faults and misses -/

/-- A request ends with a fault. A ReserveRead or ConditionalWrite also loses its agent's reservation (R97, R98). -/
def State.faultRequest (s : State) (r : Request) (kind : FaultKind) (ctx : Option ContextId) : State :=
  (if r.acc.kind.usesReservation then s.clearReservation r.agent else s).finishFault kind r.agent ctx r.tag r.acc

/-- A request misses: parked or ParkFull under the Park policy, Fault Miss with its report under the Fault policy, by the
context's policy at the step (R81, R82, R89). -/
def State.missRequest (s : State) (r : Request) (ctx : ContextId) (key : Key) : State :=
  match s.contexts[ctx].policy with
  | .park =>
    if 16 ≤ s.miss.parked.length then s.faultRequest r .parkFull (some ctx)
    else s.park (r.missItem ctx key)
  | .fault =>
    (s.faultRequest r .miss (some ctx)).reportNotParked
      { key := key, agent := r.agent, ctx := ctx, kind := r.acc.kind, notParked := true }

/-! ### Issue -/

/-- The downstream kind of a request (R108). -/
def AccessKind.down : AccessKind → DownKind
  | .read | .reserveRead => .read
  | .fetch => .fetch
  | .write | .conditionalWrite => .write

/-- The outstanding record of an issued request (R107). -/
def Request.outRecord (r : Request) (ctx : ContextId) : OutRecord :=
  { agent := r.agent, tag := r.tag, kind := r.acc.kind, ctx := ctx, addr := r.acc.addr, len := r.acc.len, orphaned := false }

/-- The downstream request of an issued request (R108). -/
def Request.downRequest (r : Request) (g : GatewayTag) (bank : BitVec 4) (addr : Word) : DownRequest :=
  { gtag := g, kind := AccessKind.down r.acc.kind, bank := bank, addr := addr, len := r.acc.len,
    data := if r.acc.kind.isWriteType then r.acc.data else [] }

/-- Issues a request: the lowest free gateway tag is taken, its record written, and the downstream request placed at the tail
of the send queue (R30, R107, R108). A request step is selected only with a credit free. -/
def State.issue (s : State) (r : Request) (ctx : ContextId) (bank : BitVec 4) (addr : Word) : State :=
  match s.freeTag with
  | none => s
  | some g =>
    { s with sys := { s.sys with
        table := s.sys.table.set g (some (r.outRecord ctx))
        sendq := s.sys.sendq ++ [r.downRequest g bank addr] } }

/-- Sets the flags of the matching entry, if the request went through one (R63). -/
def State.markEntry (s : State) (hit : Option EntryId) (f : Entry → Entry) : State :=
  match hit with
  | none => s
  | some i => { s with cache := { s.cache with entries := s.cache.entries.set i (f s.cache.entries[i]) } }

/-! ### The reservation action -/

/-- The line `line` of bank `bank` is one that a write of `n` bytes at `addr` of bank `wbank` concerns: it contains at least
one of its bytes (R96). -/
def writeConcerns (wbank : BitVec 4) (addr : Word) (n : Nat) (bank : BitVec 4) (line : Word) : Bool :=
  decide (wbank = bank) && decide (line.toNat < addr.toNat + n) && decide (addr.toNat < line.toNat + 32)

/-- An issued write clears the reservations of every other agent on the lines it concerns (R99). -/
def State.writeClears (s : State) (r : Request) (bank : BitVec 4) (addr : Word) : State :=
  s.clearReservationsWhere fun n v => decide (n ≠ r.agent) && writeConcerns bank addr r.acc.len.toNat v.bank v.line

/-- The agent's reservation is valid and covers the request's line (R98). -/
def Reservation.covers (v : Reservation) (bank : BitVec 4) (addr : Word) : Bool :=
  v.valid && decide (v.bank = bank) && decide (v.line = lineOf addr)

/-- Sets an agent's reservation to a line, with age 0 (R97). -/
def State.reserve (s : State) (n : AgentId) (bank : BitVec 4) (addr : Word) : State :=
  { s with resv := s.resv.set n { valid := true, bank := bank, line := lineOf addr, age := 0 } }

/-- A request that passes every check of its column (R39): by its kind it is issued, with its entry's flags set, or goes to
the reservation monitor first (R63, R97, R98, R99). -/
def State.passRequest (s : State) (r : Request) (ctx : ContextId) (bank : BitVec 4) (addr : Word) (hit : Option EntryId) :
    State :=
  match r.acc.kind with
  | .read | .fetch => (s.issue r ctx bank addr).markEntry hit (·.markIssued r.acc.kind)
  | .write => ((s.issue r ctx bank addr).markEntry hit (·.markIssued .write)).writeClears r bank addr
  | .reserveRead => ((s.issue r ctx bank addr).markEntry hit (·.markIssued .reserveRead)).reserve r.agent bank addr
  | .conditionalWrite =>
    if s.resv[r.agent].covers bank addr then
      (((s.issue r ctx bank addr).markEntry hit (·.markIssued .conditionalWrite)).writeClears r bank addr).clearReservation
        r.agent
    else ((s.respond r.agent r.tag .condFail).markEntry hit (·.markCondFail)).clearReservation r.agent

/-! ### The decision -/

/-- The decision of a request: Unbound, then Malformed, then the checks of its context's mode (R31, R39). -/
def State.decideRequest (s : State) (r : Request) : State :=
  match s.bindings[r.agent] with
  | none => s.faultRequest r .unbound none
  | some ctx =>
    if r.malformed then s.faultRequest r .malformed (some ctx)
    else match s.contexts[ctx].checks s.cache.entries r.acc.kind r.acc.addr with
      | .fault kind _ => s.faultRequest r kind (some ctx)
      | .miss key => s.missRequest r ctx key
      | .pass bank addr hit => s.passRequest r ctx bank addr hit

end Sys2Proof.Machine
end

