-- ==== Sys2Proof/Machine/Events.lean ====
section
/-! DEFINITION. Event delivery: Claim and Complete with the service stack, the external event detectors and the signal
mailboxes (R133 to R147). -/

namespace Sys2Proof.Machine

/-! ### Claim and Complete -/

/-- Pushes a service frame; a fourth frame discards the oldest, sets StackOverflow and raises ServiceError (R138). -/
def EventBlock.push (e : EventBlock) (f : Frame) : EventBlock :=
  if e.stack.length < 3 then { e with stack := f :: e.stack }
  else EventBlock.raise { e with stack := f :: e.stack.take 2, overflow := true } .serviceError

/-- Takes a source into service: its flag and DeliverEnable are cleared, a frame with the current level and permits is
pushed, and the level becomes the source's rank (R137). -/
def EventBlock.serve (e : EventBlock) (x : Source) : EventBlock :=
  let e' := EventBlock.push { e with requests := e.requests &&& ~~~x.bit, deliver := false } ⟨e.level, e.permits⟩
  { e' with level := some x }

/-- The read of Claim: the block after it and the value returned (R137). -/
def EventBlock.claim (e : EventBlock) : EventBlock × Nat :=
  if e.deliver then
    match e.highest with
    | some x => (e.serve x, x.rank)
    | none => (e, 0)
  else (e, 0)

/-- Pops the top frame, restoring level and permits; an empty stack goes to idle and underflows (R139 parts 1 and 2). -/
def EventBlock.popFrame (e : EventBlock) : EventBlock :=
  match e.stack with
  | f :: rest => { e with stack := rest, level := f.level, permits := f.permits }
  | [] => EventBlock.raise { e with level := none, underflow := true } .serviceError

/-- The write of Complete (R139). -/
def EventBlock.complete (e : EventBlock) (enable : Bool) : EventBlock :=
  let e' := e.popFrame
  { e' with deliver := e'.deliver || enable }

/-! ### External event detectors -/

/-- The source of a pin's detector (R143). -/
def evSource : EvPin → Source
  | .eva => .extEventA
  | .evb => .extEventB

/-- The detector of a pin. -/
def EventBlock.detector (e : EventBlock) : EvPin → Detector
  | .eva => e.eva
  | .evb => e.evb

/-- Changes the detector of a pin. -/
def EventBlock.setDetector (e : EventBlock) (p : EvPin) (d : Detector) : EventBlock :=
  match p with
  | .eva => { e with eva := d }
  | .evb => { e with evb := d }

/-- The effective level (R143). -/
def Detector.effective (d : Detector) : Bool :=
  match d.polarity with
  | .rising => d.filtered
  | .falling => !d.filtered

/-- A detector changes; its source is raised where the effective level turns from 0 to 1 (R143). -/
def EventBlock.changeDetector (e : EventBlock) (p : EvPin) (d : Detector) : EventBlock :=
  let e' := e.setDetector p d
  if !(e.detector p).effective && d.effective then e'.raise (evSource p) else e'

/-- The pin changes: a level that differs from the filtered level becomes the candidate, with no whole period counted; a
return to the filtered level leaves the filter idle (R142). -/
def Detector.pinChange (d : Detector) (level : Bool) : Detector :=
  if level = d.pin then d
  else { d with pin := level, filter := if level = d.filtered then .idle else .counting level 0 }

/-- The candidate level, held long enough, becomes the filtered level (R142). -/
def Detector.settle (d : Detector) : Detector :=
  match d.filter with
  | .idle => d
  | .counting level _ => { d with filtered := level, filter := .idle }

/-- One whole TBCLK period passes at a detector: the first is counted, the second ends the filtering (R142). -/
def Detector.period (d : Detector) : Detector :=
  match d.filter with
  | .idle => d
  | .counting level n => if n = 0 then { d with filter := .counting level 1 } else d.settle

/-- The polarity a bit of ExtEventConfig writes (R125). -/
def polarityOf (b : Bool) : Polarity := if b then .falling else .rising

/-- The write of ExtEventConfig: each polarity changes as its bit says, and raises its source where that turns the effective
level to 1 (R143). -/
def EventBlock.writeExtConfig (e : EventBlock) (v : Word) : EventBlock :=
  let e1 := e.changeDetector .eva { e.eva with polarity := polarityOf (v.getLsbD 0) }
  e1.changeDetector .evb { e1.evb with polarity := polarityOf (v.getLsbD 1) }

/-! ### Signal mailboxes -/

/-- A Signal is written into a mailbox (R145 steps 1 to 3). -/
def Mailbox.write (m : Mailbox) (code : Byte) : Mailbox :=
  { m with code := code, count := satInc 15 m.count, pending := true }

/-- A read of SignalCodeN leaves the code and clears count and pending (R146). -/
def Mailbox.afterRead (m : Mailbox) : Mailbox := { m with count := 0, pending := false }

/-- The value SignalCodeN shows (R125, R146). -/
def Mailbox.word (m : Mailbox) : Word := field m.code.toNat 0 ||| field m.count 8 ||| bit m.pending 15

/-- Writes an agent's mailbox and raises AgentSignal (R145). -/
def State.signalMailbox (s : State) (n : AgentId) (code : Byte) : State :=
  { s with ev := EventBlock.raise { s.ev with mail := s.ev.mail.set n (s.ev.mail[n].write code) } .agentSignal }

/-! ### The host accesses of the block -/

/-- The read of Claim, with the value it returns (R137). -/
def State.readClaim (s : State) : State :=
  State.emit { s with ev := s.ev.claim.1 } (.readData 0x74 (field s.ev.claim.2 0))

/-- The read of a SignalCode register (R146). -/
def State.readSignalCode (s : State) (n : AgentId) : State :=
  State.emit { s with ev := { s.ev with mail := s.ev.mail.set n s.ev.mail[n].afterRead } }
    (.readData (BitVec.ofNat 8 (0x88 + 4 * n.val)) s.ev.mail[n].word)

/-- The write of EventRaise (R135). -/
def EventBlock.writeRaise (e : EventBlock) (v : Word) : EventBlock :=
  { e with requests := e.requests ||| maskOfWord v }

/-- The write of EventClear: `setNow` names the sources raised at the same moment, whose flags stay set (R135). -/
def EventBlock.writeClear (e : EventBlock) (v : Word) (setNow : EventMask) : EventBlock :=
  { e with requests := (e.requests &&& ~~~maskOfWord v) ||| setNow }

/-- The write of EventPermit (R135, R140). -/
def EventBlock.writePermit (e : EventBlock) (v : Word) : EventBlock := { e with permits := maskOfWord v }

/-- The write of EventControl (R136). -/
def EventBlock.writeControl (e : EventBlock) (v : Word) : EventBlock := { e with deliver := v.getLsbD 0 }

/-- The write of ServiceStatus: each sticky flag written as 1 is cleared. Their causes are host accesses too, so none falls
at the same moment (R141). -/
def EventBlock.writeServiceStatus (e : EventBlock) (v : Word) : EventBlock :=
  { e with overflow := w1c e.overflow (v.getLsbD 8) false, underflow := w1c e.underflow (v.getLsbD 9) false }

end Sys2Proof.Machine
end

