-- ==== Sys2Proof/Machine/Timer.lean ====
section
/-! DEFINITION. The interval timer (R153 to R155). -/

namespace Sys2Proof.Machine

/-- The next tick brings the count to the compare (R154): the count before it equals the compare less 1. -/
def Timer.matches (t : Timer) : Bool := decide (t.count.toNat + 1 = t.compare.toNat)

/-- The next tick is a FreeRun overflow (R154). -/
def Timer.overflows (t : Timer) : Bool :=
  !t.matches && decide (t.mode = .freeRun) && decide (t.count = 4095)

/-- The timer after one tick (R154). -/
def Timer.tick (t : Timer) : Timer :=
  match t.mode with
  | .modulo =>
    if t.matches then { t with count := 0 }
    else if t.count = 4095 then { t with count := 0 }
    else { t with count := t.count + 1 }
  | .freeRun =>
    if t.matches then { t with count := t.count + 1 }
    else if t.count = 4095 then { t with overflow := true, run := false }
    else { t with count := t.count + 1 }

/-- The raises of one tick of the timer `t` (R154). -/
def EventBlock.tickRaise (e : EventBlock) (t : Timer) : EventBlock :=
  if t.matches then e.raise .intervalMatch
  else if t.overflows then e.raise .timerOverflow
  else e

/-- One tick, with its raises (R154). -/
def State.tick (s : State) : State := { s with timer := s.timer.tick, ev := s.ev.tickRaise s.timer }

/-- The prescaler period of a clock in TBCLK periods; the Epoch clock does not use the prescaler (R155). -/
def TimerClock.period : TimerClock → Nat
  | .us1 => 1 | .us16 => 16 | .us256 => 256 | .epoch => 0

/-- A tick clocked by TBCLK: the prescaler returns to 0 (R155). -/
def State.clockTick (s : State) : State := State.tick { s with timer := { s.timer with prescaler := 0 } }

/-- One TBCLK period passes at the prescaler (R155). -/
def State.timerPeriod (s : State) : State :=
  if s.timer.run && decide (s.timer.clock ≠ .epoch) then
    if s.timer.clock.period ≤ s.timer.prescaler + 1 then s.clockTick
    else { s with timer := { s.timer with prescaler := s.timer.prescaler + 1 } }
  else s

/-- The write of TimerControl: clock, Run and mode at once, the Reset action before the new Run takes effect; the prescaler
restarts where Run is set from clear, the clock changes or the Reset action is carried, and is held at 0 while Run is clear
(R153, R155). -/
def Timer.writeControl (t : Timer) (v : Word) : Timer :=
  let clock := TimerClock.ofBits (v.extractLsb' 0 2)
  let run := v.getLsbD 4
  let mode := if v.getLsbD 5 then TimerMode.freeRun else TimerMode.modulo
  let reset := v.getLsbD 8
  { t with
    count := if reset then 0 else t.count
    clock := clock
    mode := mode
    run := run
    prescaler := if reset || !run || !t.run || decide (clock ≠ t.clock) then 0 else t.prescaler }

/-- The write of TimerCompare: a value whose bits 11 to 0 are 0 is ignored (R153). -/
def Timer.writeCompare (t : Timer) (v : Word) : Timer :=
  if v.extractLsb' 0 12 = 0 then t else { t with compare := v.extractLsb' 0 12 }

/-- The write of TimerStatus (R153). -/
def Timer.writeStatus (t : Timer) (v : Word) (setNow : Bool) : Timer :=
  { t with overflow := w1c t.overflow (v.getLsbD 0) setNow }

end Sys2Proof.Machine
end

