-- ==== Sys2Proof/Machine/Epochs.lean ====
section
/-! DEFINITION. The epoch generator, the epoch step with its four duties, and the soft reset (R33, R90, R103, R148 to R152,
R160 to R162). -/

namespace Sys2Proof.Machine

/-! ### The epoch generator -/

/-- The epoch period in TBCLK periods (R149). -/
def epochPeriod (select : BitVec 2) : Nat :=
  if select = 0 then 512 else if select = 1 then 2048 else if select = 2 then 16384 else 131072

/-- The epoch event: the divider returns to 0, the count advances, the flag is set if Armed, and an epoch step is requested,
or merged into the pending one, with the read-coincident mark of this event (R25, R149, R150). -/
def State.epochEvent (s : State) : State :=
  { s with
    epoch := { s.epoch with
      divider := 0
      count := s.epoch.count + 1
      flag := s.epoch.flag || s.epoch.armed
      readNow := false }
    dp := { s.dp with epoch := some s.epoch.readNow } }

/-- One TBCLK period passes at the divider (R149). -/
def State.epochPeriodTick (s : State) : State :=
  if epochPeriod s.config.periodSelect ≤ s.epoch.divider + 1 then s.epochEvent
  else { s with epoch := { s.epoch with divider := s.epoch.divider + 1 } }

/-- The value EpochStatus shows (R125, R151). -/
def EpochGen.word (e : EpochGen) : Word := field e.count.toNat 0 ||| bit e.armed 30 ||| bit e.flag 31

/-- The read of EpochStatus: it returns the values before it, clears the flag and sets Armed; `sameMoment` says that an epoch
event falls at the moment of the read and comes after it (R151, R152). -/
def State.readEpochStatus (s : State) (sameMoment : Bool) : State :=
  State.emit
    { s with epoch := { s.epoch with flag := false, armed := true, readNow := s.epoch.readNow || sameMoment } }
    (.readData 0x0C s.epoch.word)

/-- The write of DeviceConfig: the three fields at once; a changed period select restarts the divider (R124, R149). -/
def State.writeDeviceConfig (s : State) (v : Word) : State :=
  let sel := v.extractLsb' 0 2
  { s with
    config := { periodSelect := sel, missTimeout := v.extractLsb' 8 4, lifetime := v.extractLsb' 16 4 }
    epoch := if sel = s.config.periodSelect then s.epoch else { s.epoch with divider := 0 } }

/-! ### The soft reset -/

/-- The soft reset is due at an epoch step with the read-coincident mark `mark` (R161). -/
def State.softResetDue (s : State) (mark : Bool) : Bool := s.power.resetArmed && !mark && s.allCreditsFree

/-- The requests the soft reset finishes, by port and tag, in its order: the waiting lines port by port, each from head to
tail, then the replay queue, then the parked list (R162 step 1). -/
def State.resetOrder (s : State) : List (AgentId × AgentTag) :=
  ((List.finRange 8).flatMap fun n => s.ports[n].line.map fun it => (n, it.tag)) ++
    s.dp.replay.map (fun r => (r.agent, r.tag)) ++ s.miss.parked.map (fun p => (p.item.agent, p.item.tag))

/-- The ResetAbort responses of the soft reset; a port in the Reset state discards its own (R12, R162 step 1). -/
def State.resetAborts (s : State) : List Out :=
  (s.resetOrder.filter fun p => decide (s.portState p.1 ≠ .reset)).map fun p => .response p.1 p.2 (.fault .resetAbort)

/-- A port after the soft reset: line and tag set empty, the rest kept (R20, R162 step 1). -/
def Port.afterSoftReset (p : Port) : Port := { p with line := [], tags := 0 }

/-- The event block after the soft reset: the detectors are kept (R133, R162 step 5). -/
def EventBlock.afterSoftReset (e : EventBlock) : EventBlock :=
  { e with requests := 0, permits := 0, deliver := false, level := none, stack := [], overflow := false,
           underflow := false, mail := Vector.replicate 8 Mailbox.initial }

/-- The power block after the soft reset: SoftResetSeen set, ResetArmed clear, a Standby or Waking device Waking, and
Operational at once where PORT_READY is high (R162 steps 7 and 8). -/
def Power.afterSoftReset (p : Power) : Power :=
  let p' := { p with softResetSeen := true, resetArmed := false }
  if p.device = .operational then p' else p'.toWaking

/-- The soft reset, within the epoch step that finds it due (R162). -/
def State.softReset (s : State) : State :=
  { s with
    out := s.out ++ s.resetAborts
    ports := mapIdx (fun _ p => p.afterSoftReset) s.ports
    admSeq := 0
    admOrder := 0
    dp := { s.dp with pointer := 0, replay := [] }
    miss := { parked := [], members := [], queue := [], latch := none, lost := 0 }
    resv := mapIdx (fun _ _ => Reservation.cleared) s.resv
    log := { records := [], seq := 0, lost := 0 }
    cmd := { s.cmd with fifo := [], results := [], seq := 0, dropped := false }
    ev := s.ev.afterSoftReset
    epoch := { s.epoch with flag := true, armed := true }
    timer := { s.timer with count := 0, prescaler := 0, run := false, overflow := false }
    power := s.power.afterSoftReset }

/-! ### Ageing -/

/-- A parked record one epoch older; an age of 15 stays at 15 (R90). -/
def Parked.older (p : Parked) : Parked := { p with age := satInc 15 p.age }

/-- A record times out at the timeout `t`, where that is not 0 (R90). -/
def Parked.expired (t : BitVec 4) (p : Parked) : Bool := decide (t ≠ 0) && decide (t.toNat ≤ p.age)

/-- Duty 2 of the epoch step: every record ages, and those that reach the miss timeout are removed and finished with Fault
MissTimeout, in parked-list order (R90). -/
def State.ageParked (s : State) : State :=
  let aged := { s.miss with parked := s.miss.parked.map Parked.older }
  let out := aged.parked.filter (·.expired s.config.missTimeout)
  out.foldl (fun t p => t.finishParked .missTimeout p) { s with miss := aged.remove (·.expired s.config.missTimeout) }

/-- A reservation one epoch older: a clear one is left as it is, and one whose age reaches the lifetime, where that is not 0,
is cleared (R103). -/
def Reservation.older (lifetime : BitVec 4) (r : Reservation) : Reservation :=
  if r.valid then
    if decide (lifetime ≠ 0) && decide (lifetime.toNat ≤ satInc 15 r.age) then Reservation.cleared
    else { r with age := satInc 15 r.age }
  else r

/-- Duty 3 of the epoch step (R103). -/
def State.ageReservations (s : State) : State :=
  { s with resv := mapIdx (fun _ r => r.older s.config.lifetime) s.resv }

/-- Duty 4 of the epoch step (R33, R155). -/
def State.epochTick (s : State) : State :=
  if s.timer.run && decide (s.timer.clock = .epoch) then s.tick else s

/-- The pending epoch step is consumed (R24). -/
def State.dropEpoch (s : State) : State := { s with dp := { s.dp with epoch := none } }

/-- Duties 2 to 4 of the epoch step: parked ageing, reservation ageing and the tick (R33). -/
def State.epochDuties (s : State) : State := s.ageParked.ageReservations.epochTick

/-- The epoch step with the mark of its latest event: the soft reset where it is due, else duties 2 to 4; the backlog is
served after parked ageing, at the end of the step (R33, R86, R90). -/
def State.epochStep (s : State) (mark : Bool) : State :=
  if s.dropEpoch.softResetDue mark then s.dropEpoch.softReset
  else s.dropEpoch.epochDuties.serveBacklog

/-- Takes the epoch step, if one is pending (R24, R25). -/
def State.takeEpochStep (s : State) : State :=
  match s.dp.epoch with
  | some mark => s.epochStep mark
  | none => s

/-- An epoch step is pending that will do duties 2 to 4 (R33, R161). -/
def State.ageingStepPending (s : State) : Bool :=
  match s.dp.epoch with
  | some mark => !s.softResetDue mark
  | none => false

end Sys2Proof.Machine
end

