-- ==== Sys2Proof/Machine/Ports.lean ====
section
/-! DEFINITION. The agent ports and the decision point: admission, the port reset, the choice of the next step, new agent
items and replays (R6 to R19, R24 to R29, R88, R145). -/

namespace Sys2Proof.Machine

/-! ### Admission -/

/-- A port admits the offered message (R6). -/
def State.admits (s : State) (n : AgentId) : Bool :=
  decide (s.portState n = .opened) && decide (s.ports[n].line.length < 4)

/-- The item an admission makes: a conflict item where the tag is in use, and else the malformed mark of its form (R6). -/
def State.itemOf (s : State) (n : AgentId) (m : Message) : Item :=
  let conflict := s.ports[n].uses m.tag
  { seq := s.admSeq, ord := s.admOrder, tag := m.tag, body := m.body,
    malformed := !conflict && m.body.malformed, conflict := conflict }

/-- A port after admitting a message (R6). -/
def Port.takeIn (p : Port) (t : AgentTag) (it : Item) : Port :=
  { p.occupy t with line := p.line ++ [it] }

/-- Admission, one action; it wakes a device in Standby (R6, R8, R164). A port that does not take the message in leaves it
offered on its link (R1). -/
def State.takeIn (s : State) (n : AgentId) (m : Message) : State :=
  if s.admits n then
    State.wake { s.setPort n (·.takeIn m.tag (s.itemOf n m)) with
      admSeq := s.admSeq + 1
      admOrder := s.admOrder + 1 }
  else s

/-! ### The AGRST_N pins and the port reset step -/

/-- AGRST_N[n] goes low: the port enters Reset and its port reset step is requested, or merged into the pending one
(R15). -/
def State.assertPortReset (s : State) (n : AgentId) : State :=
  if s.ports[n].resetLow then s else s.setPort n fun p => { p with resetLow := true, resetPending := true }

/-- AGRST_N[n] goes high; the port state follows (R13, R18). -/
def State.releasePortReset (s : State) (n : AgentId) : State := s.setPort n fun p => { p with resetLow := false }

/-- Marks the outstanding records of an agent as orphaned (R16, R17). -/
def SysPort.orphan (y : SysPort) (n : AgentId) : SysPort :=
  { y with table := mapIdx (fun _ o => o.map fun r => if r.agent = n then { r with orphaned := true } else r) y.table }

/-- The number of outstanding records of an agent. -/
def SysPort.countOf (y : SysPort) (n : AgentId) : Nat :=
  countIdx (fun o => match o with | some r => decide (r.agent = n) | none => false) y.table

/-- The port reset step for port `n`: everything held on the agent's behalf is discarded, its downstream items are orphaned
and counted. The backlog is not served (R16, R86, R92). -/
def State.portResetStep (s : State) (n : AgentId) : State :=
  State.clearReservation
    { s.setPort n (fun p => { p with line := [], tags := 0, flush := s.sys.countOf n, resetPending := false }) with
      miss := s.miss.remove (fun p => decide (p.item.agent = n))
      dp := { s.dp with replay := s.dp.replay.filter fun r => decide (r.agent ≠ n) }
      sys := s.sys.orphan n } n

/-! ### The next step -/

/-- A step of the decision point (R24), with the port it serves where the state fixes one. -/
inductive StepKind where
  | epoch
  | portReset (n : AgentId)
  | replay
  | hostCommand
  | newItem (n : AgentId)
  deriving DecidableEq, Repr

/-- A request step may be selected: a credit is free and the device is Operational (R30). -/
def State.gateOpen (s : State) : Bool := s.creditFree && decide (s.power.device = .operational)

/-- The agent is bound to a suspended context (R29, R45). -/
def State.suspends (s : State) (n : AgentId) : Bool :=
  match s.bindings[n] with
  | none => false
  | some c => s.contexts[c].suspended

/-- The item needs no credit: a Signal or a tag-conflict item (R29). -/
def Item.free (it : Item) : Bool :=
  it.conflict || (match it.body with | .signal _ => true | .access _ => false)

/-- Eligibility of a port for a new agent item step (R29). -/
def State.eligible (s : State) (n : AgentId) : Bool :=
  match s.ports[n].line with
  | [] => false
  | it :: _ => !s.suspends n && (it.free || s.gateOpen)

/-- The ports in the order the round-robin pointer examines them (R29). -/
def rotation (p : AgentId) : List AgentId := (List.finRange 8).map fun i => p + i

/-- The port a new agent item step serves: the first eligible one in rotation (R29). -/
def State.chosenPort (s : State) : Option AgentId := (rotation s.dp.pointer).find? s.eligible

/-- The lowest-numbered port whose port reset step is pending (R26). -/
def State.pendingReset (s : State) : Option AgentId := findIdx (·.resetPending) s.ports

/-- The step the decision point takes next: the first ready kind in the order of R24; `none` where it waits (R22). -/
def State.nextStep (s : State) : Option StepKind :=
  if s.dp.epoch.isSome then some .epoch
  else match s.pendingReset with
    | some n => some (.portReset n)
    | none =>
      if !s.dp.replay.isEmpty && s.gateOpen then some .replay
      else if !s.cmd.fifo.isEmpty && decide (s.cmd.results.length < 4) then some .hostCommand
      else if s.dp.replay.isEmpty then s.chosenPort.map .newItem
      else none

/-! ### New agent items and replays -/

/-- A tag-conflict item ends: a TagInUse record and no response (R10, R116). -/
def State.tagConflict (s : State) (n : AgentId) (it : Item) : State :=
  match it.body with
  | .access a => s.addFault .tagInUse n s.bindings[n] it.tag (.access a.kind) a.addr
  | .signal _ => s.addFault .tagInUse n s.bindings[n] it.tag .signal 0

/-- A Signal ends: its mailbox is written and it is answered Done (R11, R145). -/
def State.takeSignal (s : State) (n : AgentId) (it : Item) (code : Byte) : State :=
  (s.signalMailbox n code).respond n it.tag (.done [])

/-- An item as a request of port `n` (R31). -/
def Item.request (it : Item) (n : AgentId) (a : Access) : Request :=
  { seq := it.seq, ord := it.ord, agent := n, tag := it.tag, acc := a, malformed := it.malformed }

/-- What the step of an item does, by what the item is (R10, R11, R31). -/
def State.decideItem (s : State) (n : AgentId) (it : Item) : State :=
  if it.conflict then s.tagConflict n it
  else match it.body with
    | .signal code => s.takeSignal n it code
    | .access a => s.decideRequest (it.request n a)

/-- The state with port `n`'s head item taken and the round-robin pointer moved past the port (R29). -/
def State.dropHead (s : State) (n : AgentId) (rest : List Item) : State :=
  { s.setPort n (fun p => { p with line := rest }) with dp := { s.dp with pointer := n + 1 } }

/-- The new agent item step at port `n`, short of the service of the backlog that ends it (R29, R31). -/
def State.newItemDecided (s : State) (n : AgentId) : State :=
  match s.ports[n].line with
  | [] => s
  | it :: rest => (s.dropHead n rest).decideItem n it

/-- The new agent item step at port `n`; the backlog is served at its end (R29, R86). -/
def State.newItemStep (s : State) (n : AgentId) : State := (s.newItemDecided n).serveBacklog

/-- Takes the new agent item step of the next step, if it is one and its item satisfies `p` (R24, R29). -/
def State.takeNewItem (s : State) (p : Item → Bool) : State :=
  match s.nextStep with
  | some (.newItem n) =>
    match s.ports[n].line with
    | [] => s
    | it :: _ => if p it then s.newItemStep n else s
  | _ => s

/-- The replay step, short of the service of the backlog that ends it: the head of the replay queue is decided afresh (R27,
R88). -/
def State.replayDecided (s : State) : State :=
  match s.dp.replay with
  | [] => s
  | r :: rest => State.decideRequest { s with dp := { s.dp with replay := rest } } r.request

/-- The replay step; the backlog is served at its end (R88, R86). -/
def State.replayStep (s : State) : State := s.replayDecided.serveBacklog

end Sys2Proof.Machine
end

