-- ==== Sys2Proof/Machine/SystemPort.lean ====
section
/-! DEFINITION. The system port: sending, completions and stray responses (R106 to R113). -/

namespace Sys2Proof.Machine

/-- The interconnect accepts the oldest request of the send queue (R108). -/
def State.sendDownstream (s : State) : State :=
  match s.sys.sendq with
  | [] => s
  | q :: rest => State.emit { s with sys := { s.sys with sendq := rest } } (.downstream q)

/-- The request of a gateway tag still waits in the send queue (R109). -/
def SysPort.unsent (y : SysPort) (g : GatewayTag) : Bool := y.sendq.any fun q => decide (q.gtag = g)

/-- The first `n` bytes of response data, filled with 0x00 (R109). -/
def fitData (n : Nat) (data : List Byte) : List Byte := (data ++ List.replicate n 0).take n

/-- The outcome of a completion for a record that is not orphaned (R110, R111). -/
def OutRecord.outcome (r : OutRecord) (status : MemStatus) (data : List Byte) : Outcome :=
  match status with
  | .ok => .done (if r.kind.isReadType then fitData r.len.toNat data else [])
  | .error => .fault .memoryError

/-- Frees a gateway tag and its credit (R30). -/
def State.freeGateway (s : State) (g : GatewayTag) : State :=
  { s with sys := { s.sys with table := s.sys.table.set g none } }

/-- A completion for a record that is not orphaned (R110, R111). -/
def State.relay (s : State) (r : OutRecord) (status : MemStatus) (data : List Byte) : State :=
  let t := s.respond r.agent r.tag (r.outcome status data)
  match status with
  | .ok => t
  | .error => t.addFault .memoryError r.agent (some r.ctx) r.tag (.access r.kind) r.addr

/-- A downstream response arrives: stray for a free tag or a request not yet sent, discarded for an orphaned record, else a
completion (R109 to R113). -/
def State.downResponse (s : State) (g : GatewayTag) (status : MemStatus) (data : List Byte) : State :=
  match s.sys.table[g] with
  | none => { s with sys := { s.sys with stray := true } }
  | some r =>
    if s.sys.unsent g then { s with sys := { s.sys with stray := true } }
    else if r.orphaned then (s.freeGateway g).setPort r.agent fun p => { p with flush := p.flush - 1 }
    else (s.relay r status data).freeGateway g

end Sys2Proof.Machine
end

