-- ==== Sys2Proof/Machine/Commands.lean ====
section
/-! DEFINITION. The host commands' bodies and the host command step that executes the head of the command FIFO (R28, R47 to
R53, R65 to R75, R91, R102, R128 to R131, R160, R163). -/

namespace Sys2Proof.Machine

/-- What a command did: the state after its effect, its status and its data (R128 part 3). -/
structure CmdResult where
  state  : State
  status : Status
  data0  : Word
  data1  : Word

/-- A status with data 0 and nothing changed (R130). -/
def State.fails (s : State) (st : Status) : CmdResult := ⟨s, st, 0, 0⟩

/-! ### The command block -/

/-- Adds a result record at the tail, under the next sequence number, raising CommandDone (R129). -/
def State.addResult (s : State) (kind : Byte) (st : Status) (d0 d1 : Word) : State :=
  { s with
    cmd := { s.cmd with
      results := s.cmd.results ++ [{ seq := s.cmd.seq, kind := kind, status := st, data0 := d0, data1 := d1 }]
      seq := s.cmd.seq + 1 }
    ev := s.ev.raise .commandDone }

/-- Completion of a command: its entry leaves the head of the FIFO and its result record is added (R128 part 4). -/
def State.completeCommand (r : CmdResult) (kind : Byte) : State :=
  let s := r.state
  let t := { s with cmd := { s.cmd with fifo := s.cmd.fifo.tail } }
  t.addResult kind r.status r.data0 r.data1

/-- The end of a host command step: the completion of its command, then the service of the backlog (R86, R128). -/
def State.finishCommand (r : CmdResult) (kind : Byte) : State := (State.completeCommand r kind).serveBacklog

/-- The host command step, for a head entry whose kind satisfies `p` (R28, R128). -/
def State.commandStep (s : State) (p : Byte → Bool) (body : Vector Word 4 → CmdResult) : State :=
  if s.nextStep = some .hostCommand then
    match s.cmd.fifo with
    | [] => s
    | e :: _ => if p e.kind then State.finishCommand (body e.args) e.kind else s
  else s

/-! ### Contexts and bindings -/

/-- BindAgent (R48). -/
def State.cmdBindAgent (s : State) (a : Vector Word 4) : CmdResult :=
  match finArg 8 a[0].toNat, finArg 16 a[1].toNat with
  | some n, some c =>
    match s.bindings[n] with
    | some b => ⟨s, .alreadyBound, BitVec.ofNat 32 b.val, 0⟩
    | none => ⟨{ s with bindings := s.bindings.set n (some c) }, .ok, 0, 0⟩
  | _, _ => s.fails .badArgument

/-- UnbindAgent (R49). -/
def State.cmdUnbindAgent (s : State) (a : Vector Word 4) : CmdResult :=
  match finArg 8 a[0].toNat with
  | some n =>
    if s.ports[n].tags ≠ 0 then ⟨s, .agentBusy, BitVec.ofNat 32 s.ports[n].tagCount, 0⟩
    else ⟨State.clearReservation { s with bindings := s.bindings.set n none } n, .ok, field s.bindings[n].isSome.toNat 0, 0⟩
  | none => s.fails .badArgument

/-- Changes one context. -/
def State.setContext (s : State) (c : ContextId) (f : Context → Context) : State :=
  { s with contexts := s.contexts.set c (f s.contexts[c]) }

/-- SuspendContext and ResumeContext: the flag is set to `v`; data0 is its value before (R50). -/
def State.cmdSetSuspended (s : State) (a : Vector Word 4) (v : Bool) : CmdResult :=
  match finArg 16 a[0].toNat with
  | some c => ⟨s.setContext c fun x => { x with suspended := v }, .ok, bit s.contexts[c].suspended 0, 0⟩
  | none => s.fails .badArgument

/-- The mask of the agents bound to a context (R51 field 12). -/
def State.boundMask (s : State) (c : ContextId) : BitVec 8 :=
  (List.finRange 8).foldl (fun m n => if s.bindings[n] = some c then m ||| 1#8 <<< n.val else m) 0

/-- A protection-id slot as a field value (R51). -/
def PidSlot.word (p : PidSlot) : Word := field p.pid.toNat 0 ||| bit p.writeDisable 16

/-- The value of a context field by its number, in the form of R51's table; fields 0 to 12. -/
def State.contextField (s : State) (c : ContextId) (f : Nat) : Option Word :=
  let x := s.contexts[c]
  match f with
  | 0 => some (x.segs[0].setWidth 32)
  | 1 => some (x.segs[1].setWidth 32)
  | 2 => some (x.segs[2].setWidth 32)
  | 3 => some (x.segs[3].setWidth 32)
  | 4 => some x.pids[0].word
  | 5 => some x.pids[1].word
  | 6 => some x.pids[2].word
  | 7 => some x.pids[3].word
  | 8 => some (x.privilege.setWidth 32)
  | 9 => some (BitVec.ofNat 32 x.mode.code)
  | 10 => some (BitVec.ofNat 32 x.policy.code)
  | 11 => some (bit x.suspended 0)
  | 12 => some ((s.boundMask c).setWidth 32)
  | _ => none

/-- A protection-id slot from a field value (R51): the pid plus 0x1_0000 if write-disable is set. -/
def PidSlot.ofWord (v : Word) : PidSlot := { pid := v.setWidth 16, writeDisable := v.getLsbD 16 }

/-- Writes a context field; `none` where the field or the value is out of range (R51). -/
def Context.writeField (x : Context) (f : Nat) (v : Word) : Option Context :=
  if f ≤ 3 then
    if v.toNat ≤ 0xFFFF then some { x with segs := x.segs.setIfInBounds f (v.setWidth 16) } else none
  else if f ≤ 7 then
    if v.toNat ≤ 0x1FFFF then some { x with pids := x.pids.setIfInBounds (f - 4) (PidSlot.ofWord v) } else none
  else if f = 8 then if v.toNat ≤ 3 then some { x with privilege := v.setWidth 2 } else none
  else if f = 9 then
    if v = 0 then some { x with mode := .translated } else if v = 1 then some { x with mode := .direct } else none
  else if f = 10 then
    if v = 0 then some { x with policy := .park } else if v = 1 then some { x with policy := .fault } else none
  else none

/-- WriteContext (R51). -/
def State.cmdWriteContext (s : State) (a : Vector Word 4) : CmdResult :=
  match finArg 16 a[0].toNat with
  | some c =>
    match s.contexts[c].writeField a[1].toNat a[2] with
    | some x => ⟨s.setContext c fun _ => x, .ok, (s.contextField c a[1].toNat).getD 0, 0⟩
    | none => s.fails .badArgument
  | none => s.fails .badArgument

/-- ReadContext (R53). -/
def State.cmdReadContext (s : State) (a : Vector Word 4) : CmdResult :=
  match finArg 16 a[0].toNat with
  | some c =>
    match s.contextField c a[1].toNat with
    | some v => ⟨s, .ok, v, 0⟩
    | none => s.fails .badArgument
  | none => s.fails .badArgument

/-! ### The translation cache -/

/-- An entry as InsertAddress leaves it: AddressOnly, with the rights part 0 and Referenced and Modified clear (R67, R68). -/
def Entry.addressed (k : Key) (bank : BitVec 4) (frame : BitVec 20) (pin : Bool) : Entry :=
  { Entry.cleared with state := .addressOnly, key := k, bank := bank, frame := frame, pinned := pin }

/-- Changes one entry. -/
def State.setEntry (s : State) (i : EntryId) (e : Entry) : State :=
  { s with cache := { s.cache with entries := s.cache.entries.set i e } }

/-- The victim: the first entry from the replacement pointer on whose Pinned flag is clear (R68, R70). -/
def TransCache.victim (c : TransCache) : Option EntryId :=
  ((List.finRange 64).map fun i => c.pointer + i).find? fun i => !c.entries[i].pinned

/-- The effect of InsertAddress: an existing entry is re-used, else an Empty one is taken, else a victim; a frame given up
loses its reservations (R67, R68). -/
def State.insertAddress (s : State) (k : Key) (bank : BitVec 4) (frame : BitVec 20) (pin : Bool) : CmdResult :=
  match holder s.cache.entries k with
  | some i =>
    ⟨(s.clearFrame s.cache.entries[i].bank s.cache.entries[i].frame).setEntry i (Entry.addressed k bank frame pin),
      .ok, BitVec.ofNat 32 i.val, 0⟩
  | none =>
    match findIdx (fun e => decide (e.state = .empty)) s.cache.entries with
    | some i => ⟨s.setEntry i (Entry.addressed k bank frame pin), .ok, BitVec.ofNat 32 i.val, 1⟩
    | none =>
      match s.cache.victim with
      | some i =>
        let t := (s.clearFrame s.cache.entries[i].bank s.cache.entries[i].frame).setEntry i (Entry.addressed k bank frame pin)
        ⟨{ t with cache := { t.cache with pointer := i + 1 } }, .ok, BitVec.ofNat 32 i.val, 2⟩
      | none => s.fails .noFreeEntry

/-- InsertAddress (R65, R67, R68, R131). -/
def State.cmdInsertAddress (s : State) (a : Vector Word 4) : CmdResult :=
  match keyArg a[0] a[1], frameArg a[2], finArg 16 (lowHalf a[3]), flagArg (highHalf a[3]) with
  | some k, some f, some b, some p => s.insertAddress k (BitVec.ofNat 4 b.val) f p
  | _, _, _, _ => s.fails .badArgument

/-- InsertRights on an entry: it becomes or stays Valid, with the new rights; flags are kept (R69). -/
def Entry.withRights (e : Entry) (pt : PageType) (rl wl : BitVec 2) (pid : BitVec 16) : Entry :=
  { e with state := .valid, pageType := pt, readLevel := rl, writeLevel := wl, pid := pid }

/-- The effect of InsertRights: rights, then release (R69, R87). -/
def State.insertRights (s : State) (k : Key) (pt : PageType) (rl wl : BitVec 2) (pid : BitVec 16) : CmdResult :=
  match holder s.cache.entries k with
  | none => s.fails .notFound
  | some i =>
    ⟨(s.setEntry i (s.cache.entries[i].withRights pt rl wl pid)).releaseKey k, .ok,
      BitVec.ofNat 32 (s.miss.parked.countP (·.under k)), BitVec.ofNat 32 i.val⟩

/-- InsertRights (R65, R69, R131). -/
def State.cmdInsertRights (s : State) (a : Vector Word 4) : CmdResult :=
  match keyArg a[0] a[1], PageType.ofCode (lowHalf a[2]), levelArg (lowHalf a[3]), levelArg (highHalf a[3]) with
  | some k, some pt, some rl, some wl => s.insertRights k pt rl wl (BitVec.ofNat 16 (highHalf a[2]))
  | _, _, _, _ => s.fails .badArgument

/-- The flags PurgeEntry reports: 1 Pinned, 2 Referenced, 4 Modified, 8 Valid (R71). -/
def Entry.purgeFlags (e : Entry) : Word :=
  bit e.pinned 0 ||| bit e.referenced 1 ||| bit e.modified 2 ||| bit (decide (e.state = .valid)) 3

/-- Empties every non-Empty entry that satisfies `p`, clearing the reservations of each one's frame (R66, R71 to R73). -/
def State.purgeWhere (s : State) (p : Entry → Bool) : State :=
  let hit : Entry → Bool := fun e => decide (e.state ≠ .empty) && p e
  { s.clearReservationsWhere fun _ r =>
      (List.finRange 64).any fun i =>
        hit s.cache.entries[i] && r.bank == s.cache.entries[i].bank && frameOf r.line == s.cache.entries[i].frame with
    cache := { s.cache with entries := mapIdx (fun _ e => if hit e then Entry.cleared else e) s.cache.entries } }

/-- PurgeEntry (R65, R71). -/
def State.cmdPurgeEntry (s : State) (a : Vector Word 4) : CmdResult :=
  match keyArg a[0] a[1] with
  | some k =>
    match holder s.cache.entries k with
    | none => s.fails .notFound
    | some i =>
      ⟨(s.clearFrame s.cache.entries[i].bank s.cache.entries[i].frame).setEntry i Entry.cleared, .ok,
        BitVec.ofNat 32 i.val, s.cache.entries[i].purgeFlags⟩
  | none => s.fails .badArgument

/-- A purge of every non-Empty entry that satisfies `p`, with its two counts (R72, R73). -/
def State.purgeMany (s : State) (p : Entry → Bool) : CmdResult :=
  ⟨s.purgeWhere p, .ok,
    BitVec.ofNat 32 (countIdx (fun e => decide (e.state ≠ .empty) && p e) s.cache.entries),
    BitVec.ofNat 32 (countIdx (fun e => decide (e.state ≠ .empty) && p e && e.modified) s.cache.entries)⟩

/-- PurgeSegment (R65, R72). -/
def State.cmdPurgeSegment (s : State) (a : Vector Word 4) : CmdResult :=
  match segArg a[0] with
  | some seg => s.purgeMany fun e => decide (e.key.seg = seg)
  | none => s.fails .badArgument

/-- PurgeAll (R65, R73). -/
def State.cmdPurgeAll (s : State) (a : Vector Word 4) : CmdResult :=
  match flagArg a[0].toNat with
  | some withPinned => s.purgeMany fun e => withPinned || !e.pinned
  | none => s.fails .badArgument

/-- Part 0 of an entry: data0 and data1 (R74). -/
def Entry.part0 (e : Entry) : Word × Word :=
  (field e.key.seg.toNat 16 ||| field e.state.code 8 ||| bit e.modified 2 ||| bit e.referenced 1 ||| bit e.pinned 0,
    field e.key.vpn.toNat 0)

/-- Part 1 of an entry: data0 and data1 (R74). -/
def Entry.part1 (e : Entry) : Word × Word :=
  (field e.bank.toNat 24 ||| field e.frame.toNat 0,
    field e.pid.toNat 16 ||| field e.pageType.code 8 ||| field e.readLevel.toNat 4 ||| field e.writeLevel.toNat 0)

/-- ReadEntry (R65, R74). -/
def State.cmdReadEntry (s : State) (a : Vector Word 4) : CmdResult :=
  match finArg 64 a[0].toNat, flagArg a[1].toNat with
  | some i, some part =>
    let d := if part then s.cache.entries[i].part1 else s.cache.entries[i].part0
    ⟨s, .ok, d.1, d.2⟩
  | _, _ => s.fails .badArgument

/-- The answer of Probe to how the checks end (R75). -/
def State.probeAnswer (s : State) : Verdict → CmdResult
  | .pass bank addr _ => ⟨s, .ok, addr, field bank.toNat 0⟩
  | .miss _ => ⟨s, .faulted, field FaultKind.miss.code 0, 0⟩
  | .fault kind none => ⟨s, .faulted, field kind.code 0, 0⟩
  | .fault kind (some i) => ⟨s, .faulted, field kind.code 0, field (i.val + 1) 0⟩

/-- Probe (R65, R75). -/
def State.cmdProbe (s : State) (a : Vector Word 4) : CmdResult :=
  match finArg 16 a[0].toNat, AccessKind.ofCode a[2].toNat with
  | some c, some k => s.probeAnswer (s.contexts[c].checks s.cache.entries k a[1])
  | _, _ => s.fails .badArgument

/-! ### Parked requests, reservations, standby, soft reset -/

/-- The effect of AbortParked on a key with records: each is finished with Fault HostAbort, in parked-list order (R91). -/
def State.abortKey (s : State) (k : Key) : State :=
  (s.miss.parked.filter (·.under k)).foldl (fun t p => t.finishParked .hostAbort p)
    { s with miss := s.miss.remove (·.under k) }

/-- AbortParked (R91). -/
def State.cmdAbortParked (s : State) (a : Vector Word 4) : CmdResult :=
  match keyArg a[0] a[1] with
  | some k =>
    if s.miss.hasRecord k then ⟨s.abortKey k, .ok, BitVec.ofNat 32 (s.miss.parked.countP (·.under k)), 0⟩
    else s.fails .notFound
  | none => s.fails .badArgument

/-- ClearReservation (R102). -/
def State.cmdClearReservation (s : State) (a : Vector Word 4) : CmdResult :=
  match finArg 8 a[0].toNat with
  | some n => ⟨s.clearReservation n, .ok, bit s.resv[n].valid 0, 0⟩
  | none => s.fails .badArgument

/-- EnterStandby's conditions; the executing command counts itself in the FIFO (R128, R163). -/
def State.idleForStandby (s : State) : Bool :=
  (List.finRange 8).all (fun n => s.ports[n].line.isEmpty) && s.miss.parked.isEmpty && s.dp.replay.isEmpty &&
    s.allCreditsFree && decide (s.cmd.fifo.length = 1)

/-- EnterStandby (R163). -/
def State.cmdEnterStandby (s : State) (_ : Vector Word 4) : CmdResult :=
  if s.idleForStandby then ⟨{ s with power := { s.power with device := .standby } }, .ok, 0, 0⟩
  else s.fails .notIdle

/-- ArmSoftReset (R160). -/
def State.cmdArmSoftReset (s : State) (_ : Vector Word 4) : CmdResult :=
  if s.power.resetArmed then s.fails .alreadyPending
  else ⟨{ s with power := { s.power with resetArmed := true } }, .ok, 0, 0⟩

/-- A kind that names no command: 0 and 18 to 255 (R128, R131). -/
def badKind (k : Byte) : Bool := decide (k = 0) || decide (17 < k.toNat)

/-- The body of the command of a kind (R131); a kind that names none is answered BadCommand (R128). -/
def State.commandBody (s : State) (k : Byte) : Vector Word 4 → CmdResult :=
  match k.toNat with
  | 1 => s.cmdInsertAddress
  | 2 => s.cmdInsertRights
  | 3 => s.cmdPurgeEntry
  | 4 => s.cmdPurgeSegment
  | 5 => s.cmdPurgeAll
  | 6 => s.cmdReadEntry
  | 7 => s.cmdProbe
  | 8 => s.cmdBindAgent
  | 9 => s.cmdUnbindAgent
  | 10 => s.cmdWriteContext
  | 11 => s.cmdReadContext
  | 12 => (s.cmdSetSuspended · true)
  | 13 => (s.cmdSetSuspended · false)
  | 14 => s.cmdAbortParked
  | 15 => s.cmdClearReservation
  | 16 => s.cmdEnterStandby
  | 17 => s.cmdArmSoftReset
  | _ => fun _ => s.fails .badCommand

end Sys2Proof.Machine
end

