-- ==== Sys2Proof/Machine/Registers.lean ====
section
/-! DEFINITION. The host register port: what every register reads, and what every write does (R121 to R127, R129). -/

namespace Sys2Proof.Machine

/-! ### Reads -/

/-- ResultHead0 to ResultHead2 (R124, R129). -/
def CmdBlock.head (c : CmdBlock) (i : Nat) : Word :=
  match c.results with
  | [] => 0
  | r :: _ =>
    match i with
    | 0 => bit true 31 ||| field r.seq.toNat 16 ||| field r.kind.toNat 8 ||| field r.status.code 0
    | 1 => r.data0
    | _ => r.data1

/-- CmdStatus (R124). -/
def CmdBlock.status (c : CmdBlock) : Word :=
  field c.fifo.length 0 ||| field c.results.length 4 ||| bit c.dropped 8

/-- MissPresented0 and MissPresented1 (R84, R124). -/
def MissBlock.presented (m : MissBlock) (i : Nat) : Word :=
  match m.latch with
  | none => 0
  | some l =>
    match i with
    | 0 => bit true 31 ||| bit l.resolved 30 ||| bit l.report.notParked 29 ||| field l.report.agent.val 24 |||
        field l.report.ctx.val 20 ||| field l.report.kind.code 16 ||| field l.report.key.seg.toNat 0
    | _ => field l.report.key.vpn.toNat 0

/-- MissStatus (R94, R124). -/
def State.missStatus (s : State) : Word :=
  field s.miss.parked.length 0 ||| field s.dp.replay.length 8 ||| field s.miss.members.length 16 |||
    field s.miss.queue.length 24 ||| bit s.miss.latch.isSome 31

/-- FaultHead0 to FaultHead3 (R116). -/
def FaultLog.head (l : FaultLog) (i : Nat) : Word :=
  match l.records with
  | [] => 0
  | r :: _ =>
    match i with
    | 0 => bit true 31 ||| field r.seq.toNat 16 ||| field r.kind.code 0
    | 1 =>
      (match r.ctx with
        | some c => field c.val 16 ||| bit true 15
        | none => 0) ||| field r.req.code 8 ||| field r.tag.val 4 ||| field r.agent.val 0
    | 2 => r.addr
    | _ => field r.stamp.toNat 0

/-- FaultStatus (R120, R124). -/
def FaultLog.status (l : FaultLog) : Word := field l.records.length 0 ||| field l.lost 8

/-- DeviceStatus (R124, R157). -/
def State.deviceStatus (s : State) : Word :=
  field s.power.device.code 0 ||| bit s.power.hold 4 ||| bit s.power.resetArmed 5 ||| bit s.power.softResetSeen 6 |||
    bit s.sys.stray 7 ||| field s.miss.lost 8

/-- DeviceConfig (R124). -/
def DevConfig.word (c : DevConfig) : Word :=
  field c.periodSelect.toNat 0 ||| field c.missTimeout.toNat 8 ||| field c.lifetime.toNat 16

/-- ServiceStatus (R125, R141). -/
def EventBlock.serviceStatus (e : EventBlock) : Word :=
  field (levelRank e.level) 0 ||| field e.stack.length 4 ||| bit e.overflow 8 ||| bit e.underflow 9

/-- ExtEventConfig: the polarities and the filtered levels (R125, R142). -/
def EventBlock.extConfig (e : EventBlock) : Word :=
  bit (decide (e.eva.polarity = .falling)) 0 ||| bit (decide (e.evb.polarity = .falling)) 1 ||| bit e.eva.filtered 8 |||
    bit e.evb.filtered 9

/-- SignalPending (R146). -/
def EventBlock.signalPending (e : EventBlock) : Word :=
  (List.finRange 8).foldl (fun w n => w ||| bit e.mail[n].pending n.val) 0

/-- TimerControl (R125, R153). -/
def Timer.control (t : Timer) : Word :=
  field t.clock.code 0 ||| bit t.run 4 ||| bit (decide (t.mode = .freeRun)) 5

/-- PortStatus of a port (R21, R124). -/
def State.portStatus (s : State) (n : AgentId) : Word :=
  field (s.portState n).code 0 ||| field s.ports[n].line.length 4 ||| field s.ports[n].tags.toNat 8 |||
    field s.ports[n].flush 12

/-- DownstreamStatus (R120, R124). -/
def SysPort.status (y : SysPort) : Word :=
  (List.finRange 16).foldl (fun w g =>
    match y.table[g] with
    | none => w
    | some r => w ||| bit true g.val ||| bit r.orphaned (16 + g.val)) 0

/-- The value a read of an offset returns, before any read side effect (R122, R124, R125). Registers of type W and unused
offsets read 0. -/
def State.readValue (s : State) (offset : BitVec 8) : Word :=
  match offset.toNat with
  | 0x00 => Config.identity
  | 0x04 => s.deviceStatus
  | 0x08 => s.config.word
  | 0x0C => s.epoch.word
  | 0x10 => s.cmd.args[0]
  | 0x14 => s.cmd.args[1]
  | 0x18 => s.cmd.args[2]
  | 0x1C => s.cmd.args[3]
  | 0x24 => s.cmd.status
  | 0x28 => s.cmd.head 0
  | 0x2C => s.cmd.head 1
  | 0x30 => s.cmd.head 2
  | 0x38 => s.miss.presented 0
  | 0x3C => s.miss.presented 1
  | 0x44 => s.missStatus
  | 0x48 => s.log.head 0
  | 0x4C => s.log.head 1
  | 0x50 => s.log.head 2
  | 0x54 => s.log.head 3
  | 0x5C => s.log.status
  | 0x68 => wordOfMask s.ev.requests
  | 0x6C => wordOfMask s.ev.permits
  | 0x70 => bit s.ev.deliver 0
  | 0x74 => field s.ev.claim.2 0
  | 0x7C => s.ev.serviceStatus
  | 0x80 => s.ev.extConfig
  | 0x84 => s.ev.signalPending
  | 0x88 => s.ev.mail[0].word
  | 0x8C => s.ev.mail[1].word
  | 0x90 => s.ev.mail[2].word
  | 0x94 => s.ev.mail[3].word
  | 0x98 => s.ev.mail[4].word
  | 0x9C => s.ev.mail[5].word
  | 0xA0 => s.ev.mail[6].word
  | 0xA4 => s.ev.mail[7].word
  | 0xA8 => s.timer.control
  | 0xAC => s.timer.compare.setWidth 32
  | 0xB0 => s.timer.count.setWidth 32
  | 0xB4 => bit s.timer.overflow 0
  | 0xB8 => s.portStatus 0
  | 0xBC => s.portStatus 1
  | 0xC0 => s.portStatus 2
  | 0xC4 => s.portStatus 3
  | 0xC8 => s.portStatus 4
  | 0xCC => s.portStatus 5
  | 0xD0 => s.portStatus 6
  | 0xD4 => s.portStatus 7
  | 0xD8 => s.sys.status
  | _ => 0

/-- A read of an offset: the value, and the side effect of Claim, EpochStatus and the SignalCode registers (R122). -/
def State.hostRead (s : State) (offset : BitVec 8) : State :=
  match offset.toNat with
  | 0x0C => s.readEpochStatus false
  | 0x74 => s.readClaim
  | 0x88 => s.readSignalCode 0
  | 0x8C => s.readSignalCode 1
  | 0x90 => s.readSignalCode 2
  | 0x94 => s.readSignalCode 3
  | 0x98 => s.readSignalCode 4
  | 0x9C => s.readSignalCode 5
  | 0xA0 => s.readSignalCode 6
  | 0xA4 => s.readSignalCode 7
  | _ => s.emit (.readData offset (s.readValue offset))

/-! ### Writes -/

/-- CmdIssue: captured, or dropped where the FIFO holds 4; either wakes a device in Standby (R127, R164). -/
def State.issueCommand (s : State) (v : Word) : State :=
  State.wake
    (if s.cmd.fifo.length < 4 then
      { s with cmd := { s.cmd with fifo := s.cmd.fifo ++ [{ kind := v.setWidth 8, args := s.cmd.args }] } }
    else State.raise { s with cmd := { s.cmd with dropped := true } } .serviceError)

/-- CmdStatus: CmdDropped is cleared by a 1 in bit 8, unless a drop of the same moment sets it (R122, R127). -/
def State.writeCmdStatus (s : State) (v : Word) (setNow : Bool) : State :=
  { s with cmd := { s.cmd with dropped := w1c s.cmd.dropped (v.getLsbD 8) setNow } }

/-- CmdArg0 to CmdArg3 (R124, R127). -/
def State.writeArg (s : State) (i : Fin 4) (v : Word) : State := { s with cmd := { s.cmd with args := s.cmd.args.set i v } }

/-- ResultPop (R129). -/
def State.popResult (s : State) : State := { s with cmd := { s.cmd with results := s.cmd.results.tail } }

/-- FaultPop (R118). -/
def State.popFault (s : State) : State := { s with log := { s.log with records := s.log.records.tail } }

/-- What a write of an offset does; a write to a register of type R or RS or to an unused offset is ignored (R122, R124). -/
def State.writeEffect (s : State) (offset : BitVec 8) (v : Word) : State :=
  match offset.toNat with
  | 0x08 => s.writeDeviceConfig v
  | 0x10 => s.writeArg 0 v
  | 0x14 => s.writeArg 1 v
  | 0x18 => s.writeArg 2 v
  | 0x1C => s.writeArg 3 v
  | 0x20 => s.issueCommand v
  | 0x24 => s.writeCmdStatus v false
  | 0x34 => s.popResult
  | 0x40 => s.missPop
  | 0x58 => s.popFault
  | 0x60 => { s with ev := s.ev.writeRaise v }
  | 0x64 => { s with ev := s.ev.writeClear v 0 }
  | 0x6C => { s with ev := s.ev.writePermit v }
  | 0x70 => { s with ev := s.ev.writeControl v }
  | 0x78 => { s with ev := s.ev.complete (v.getLsbD 0) }
  | 0x7C => { s with ev := s.ev.writeServiceStatus v }
  | 0x80 => { s with ev := s.ev.writeExtConfig v }
  | 0xA8 => { s with timer := s.timer.writeControl v }
  | 0xAC => { s with timer := s.timer.writeCompare v }
  | 0xB4 => { s with timer := s.timer.writeStatus v false }
  | _ => s

/-- The normal response to an accepted write (R121). -/
def State.ack (s : State) : State := s.emit .writeDone

/-- The error response of the host link (R121). -/
def State.refuse (s : State) : State := s.emit .accessError

/-- A host access is accepted: a word access at a multiple of 4 within the window (R121). -/
def accepted (a : HostAccess) : Bool := decide (a.size = .word) && decide (a.offset.toNat % 4 = 0)

/-- A host access: refused with an error and no effect of any kind, or performed (R121, R122). -/
def State.hostAccess (s : State) (a : HostAccess) : State :=
  if accepted a then
    if a.isWrite then (s.writeEffect a.offset a.value).ack else s.hostRead a.offset
  else s.refuse

end Sys2Proof.Machine
end

