-- ==== Sys2Proof/Machine/LinkSteps.lean ====
section
/-! DEFINITION. The meanings of the commands of the agent links, of the port reset pins and of the system port's channels. -/

namespace Sys2Proof.Machine

/-- What a command answers. -/
abbrev Answer := Host.Outcome State Fault Refusal

/-- ADMISSION: port `n` judges the offered message `m` (R6). Where a condition of R6 fails the message stays offered on its
link and nothing changes (R1). A message the link cannot carry is a fault (R2). -/
def execAdmission (n : AgentId) (m : Message) (s : State) : Answer :=
  if m.linkOk then .next (s.takeIn n m) else .fault .linkBroken

/-- AGRST_N_ASSERTION: AGRST_N[n] goes low (R15). A pin already low has no falling edge. -/
def execAgrstNAssertion (n : AgentId) (s : State) : Answer := .next (s.assertPortReset n)

/-- AGRST_N_RELEASE: AGRST_N[n] goes high (R18). -/
def execAgrstNRelease (n : AgentId) (s : State) : Answer := .next (s.releasePortReset n)

/-- DOWNSTREAM_REQUEST: the interconnect accepts the oldest request of the send queue (R108). -/
def execDownstreamRequest (s : State) : Answer := .next s.sendDownstream

/-- DOWNSTREAM_RESPONSE: a response arrives for gateway tag `g` (R109 to R113). -/
def execDownstreamResponse (g : GatewayTag) (status : MemStatus) (data : List Byte) (s : State) : Answer :=
  .next (s.downResponse g status data)

end Sys2Proof.Machine
end

