-- ==== Sys2Proof/Machine/DecisionSteps.lean ====
section
/-! DEFINITION. The meanings of the steps of the decision point other than host commands (R22 to R33). A step that is not
the first ready one in the order of R24 is not taken: the command then changes nothing (notes/assumptions/4.md). -/

namespace Sys2Proof.Machine

/-- PORT_RESET_STEP: the port reset step of the lowest-numbered pending port (R16, R26). -/
def execPortResetStep (s : State) : Answer :=
  .next (match s.nextStep with
    | some (.portReset n) => s.portResetStep n
    | _ => s)

/-- NEW_AGENT_ITEM_STEP: the head of the round-robin-chosen eligible port is taken and decided (R29, R31). -/
def execNewAgentItemStep (s : State) : Answer := .next (s.takeNewItem fun _ => true)

/-- An item that is a Signal and no tag-conflict item (R11). -/
def Item.isSignal (it : Item) : Bool :=
  !it.conflict && (match it.body with | .signal _ => true | .access _ => false)

/-- SIGNAL: the new agent item step whose item is a Signal (R11, R145). -/
def execSignal (s : State) : Answer := .next (s.takeNewItem Item.isSignal)

/-- TAG_IN_USE: the new agent item step whose item is a tag-conflict item (R10). -/
def execTagInUse (s : State) : Answer := .next (s.takeNewItem Item.conflict)

/-- REPLAY_STEP: the head of the replay queue is taken and decided afresh (R27, R88). -/
def execReplayStep (s : State) : Answer :=
  .next (if s.nextStep = some .replay then s.replayStep else s)

/-- EPOCH_STEP: the pending epoch step, with its four duties (R33). -/
def execEpochStep (s : State) : Answer := .next s.takeEpochStep

/-- MISS_TIMEOUT: the epoch step in which some parked record reaches the miss timeout (R33, R90). -/
def execMissTimeout (s : State) : Answer :=
  .next (if s.ageingStepPending && s.miss.parked.any (fun p => p.older.expired s.config.missTimeout) then s.takeEpochStep
    else s)

/-- A valid reservation that the next ageing clears (R103). -/
def Reservation.expires (lifetime : BitVec 4) (r : Reservation) : Bool := r.valid && !(r.older lifetime).valid

/-- RESERVATION_EXPIRY: the epoch step in which some reservation reaches the lifetime (R33, R103). -/
def execReservationExpiry (s : State) : Answer :=
  .next (if s.ageingStepPending && (List.finRange 8).any (fun n => s.resv[n].expires s.config.lifetime) then s.takeEpochStep
    else s)

/-- The state in which the service of the backlog at the end of the next step finds the gateway: everything else that the
step does is done (R86). There is none where no step is ready, where the next step is a port reset step, which does not serve,
or where it performs the soft reset, which leaves no member. -/
def State.beforeService (s : State) : Option State :=
  match s.nextStep with
  | some .epoch => if s.ageingStepPending then some s.dropEpoch.epochDuties else none
  | some (.portReset _) => none
  | some .replay => some s.replayDecided
  | some .hostCommand => s.cmd.fifo.head?.map fun e => State.completeCommand (s.commandBody e.kind e.args) e.kind
  | some (.newItem n) => some (s.newItemDecided n)
  | none => none

/-- A service reports at least one member: the queue has room and some member is Unreported (R86). -/
def MissBlock.servable (m : MissBlock) : Bool := decide (m.queue.length < 8) && m.backlogHead.isSome

/-- BACKLOG_SERVICE: the step of the decision point at whose end the service reports a member (R86). A service is never taken
by itself: every change of the miss page set is made within a step, or by MissPop, which has its own row (R22). DEDUCED
(notes/assumptions/7.md). -/
def execBacklogService (s : State) : Answer :=
  .next (match s.beforeService with
    | some t => if t.miss.servable then t.serveBacklog else s
    | none => s)

end Sys2Proof.Machine
end

