-- ==== Sys2Proof/Machine/HostCommandSteps.lean ====
section
/-! DEFINITION. The meanings of the host command steps: each executes the head of the command FIFO where it is of the row's
kind (R131) and the host command step is the first ready one (R24, R28); else the command changes nothing. -/

namespace Sys2Proof.Machine

/-- INSERT_ADDRESS, kind 1 (R67, R68). -/
def execInsertAddress (s : State) : Answer := .next (s.commandStep (· == 1) s.cmdInsertAddress)

/-- INSERT_RIGHTS, kind 2 (R69). -/
def execInsertRights (s : State) : Answer := .next (s.commandStep (· == 2) s.cmdInsertRights)

/-- PURGE_ENTRY, kind 3 (R71). -/
def execPurgeEntry (s : State) : Answer := .next (s.commandStep (· == 3) s.cmdPurgeEntry)

/-- PURGE_SEGMENT, kind 4 (R72). -/
def execPurgeSegment (s : State) : Answer := .next (s.commandStep (· == 4) s.cmdPurgeSegment)

/-- PURGE_ALL, kind 5 (R73). -/
def execPurgeAll (s : State) : Answer := .next (s.commandStep (· == 5) s.cmdPurgeAll)

/-- READ_ENTRY, kind 6 (R74). -/
def execReadEntry (s : State) : Answer := .next (s.commandStep (· == 6) s.cmdReadEntry)

/-- PROBE, kind 7 (R75). -/
def execProbe (s : State) : Answer := .next (s.commandStep (· == 7) s.cmdProbe)

/-- BIND_AGENT, kind 8 (R48). -/
def execBindAgent (s : State) : Answer := .next (s.commandStep (· == 8) s.cmdBindAgent)

/-- UNBIND_AGENT, kind 9 (R49). -/
def execUnbindAgent (s : State) : Answer := .next (s.commandStep (· == 9) s.cmdUnbindAgent)

/-- WRITE_CONTEXT, kind 10 (R51). -/
def execWriteContext (s : State) : Answer := .next (s.commandStep (· == 10) s.cmdWriteContext)

/-- READ_CONTEXT, kind 11 (R53). -/
def execReadContext (s : State) : Answer := .next (s.commandStep (· == 11) s.cmdReadContext)

/-- SUSPEND_CONTEXT, kind 12 (R50). -/
def execSuspendContext (s : State) : Answer := .next (s.commandStep (· == 12) (s.cmdSetSuspended · true))

/-- RESUME_CONTEXT, kind 13 (R50). -/
def execResumeContext (s : State) : Answer := .next (s.commandStep (· == 13) (s.cmdSetSuspended · false))

/-- ABORT_PARKED, kind 14 (R91). -/
def execAbortParked (s : State) : Answer := .next (s.commandStep (· == 14) s.cmdAbortParked)

/-- CLEAR_RESERVATION, kind 15 (R102). -/
def execClearReservation (s : State) : Answer := .next (s.commandStep (· == 15) s.cmdClearReservation)

/-- ENTER_STANDBY, kind 16 (R163). -/
def execEnterStandby (s : State) : Answer := .next (s.commandStep (· == 16) s.cmdEnterStandby)

/-- ARM_SOFT_RESET, kind 17 (R160). -/
def execArmSoftReset (s : State) : Answer := .next (s.commandStep (· == 17) s.cmdArmSoftReset)

/-- BAD_COMMAND: a kind that names no command (R128). -/
def execBadCommand (s : State) : Answer := .next (s.commandStep badKind fun _ => s.fails .badCommand)

end Sys2Proof.Machine
end

