-- ==== Sys2Proof/Machine/RegisterAccess.lean ====
section
/-! DEFINITION. The meanings of the host accesses that have a row of their own (R121 to R129, R135 to R141, R146, R149,
R151, R153). Each accepted write gets the normal response of R121. -/

namespace Sys2Proof.Machine

/-- CMD_ISSUE: a write of CmdIssue (R127). -/
def execCmdIssue (v : Word) (s : State) : Answer := .next (s.issueCommand v).ack

/-- RESULT_POP: a write of ResultPop, whatever the value (R129). -/
def execResultPop (_ : Word) (s : State) : Answer := .next s.popResult.ack

/-- MISS_POP: a write of MissPop, whatever the value (R84). -/
def execMissPop (_ : Word) (s : State) : Answer := .next s.missPop.ack

/-- FAULT_POP: a write of FaultPop, whatever the value (R118). -/
def execFaultPop (_ : Word) (s : State) : Answer := .next s.popFault.ack

/-- CMD_DROPPED_CLEAR: a write of CmdStatus; `setNow`, a drop falls at the same moment (R122, R127). -/
def execCmdDroppedClear (v : Word) (setNow : Bool) (s : State) : Answer := .next (s.writeCmdStatus v setNow).ack

/-- EVENT_RAISE: a write of EventRaise (R135). -/
def execEventRaise (v : Word) (s : State) : Answer := .next { s with ev := s.ev.writeRaise v }.ack

/-- EVENT_CLEAR: a write of EventClear; `setNow`, the sources raised at the same moment (R135). -/
def execEventClear (v : Word) (setNow : EventMask) (s : State) : Answer :=
  .next { s with ev := s.ev.writeClear v setNow }.ack

/-- EVENT_PERMIT: a write of EventPermit (R135, R140). -/
def execEventPermit (v : Word) (s : State) : Answer := .next { s with ev := s.ev.writePermit v }.ack

/-- DELIVER_ENABLE: a write of EventControl (R136). -/
def execDeliverEnable (v : Word) (s : State) : Answer := .next { s with ev := s.ev.writeControl v }.ack

/-- CLAIM: a read of Claim (R137, R138). -/
def execClaim (s : State) : Answer := .next s.readClaim

/-- COMPLETE: a write of Complete (R139). -/
def execComplete (v : Word) (s : State) : Answer := .next { s with ev := s.ev.complete (v.getLsbD 0) }.ack

/-- SERVICE_STATUS_CLEAR: a write of ServiceStatus (R141). -/
def execServiceStatusClear (v : Word) (s : State) : Answer := .next { s with ev := s.ev.writeServiceStatus v }.ack

/-- EXT_EVENT_CONFIG: a write of ExtEventConfig (R143). -/
def execExtEventConfig (v : Word) (s : State) : Answer := .next { s with ev := s.ev.writeExtConfig v }.ack

/-- SIGNAL_CODE_READ: a read of SignalCodeN (R146). -/
def execSignalCodeRead (n : AgentId) (s : State) : Answer := .next (s.readSignalCode n)

/-- EPOCH_STATUS_READ: a read of EpochStatus; `sameMoment`, an epoch event falls at the same moment (R151, R152). -/
def execEpochStatusRead (sameMoment : Bool) (s : State) : Answer := .next (s.readEpochStatus sameMoment)

/-- DEVICE_CONFIG: a write of DeviceConfig (R124, R149). -/
def execDeviceConfig (v : Word) (s : State) : Answer := .next (s.writeDeviceConfig v).ack

/-- TIMER_CONTROL: a write of TimerControl (R153, R155). -/
def execTimerControl (v : Word) (s : State) : Answer := .next { s with timer := s.timer.writeControl v }.ack

/-- RESET_ACTION: a write of TimerControl with the Reset action bit set in the value (R153, R155). -/
def execResetAction (v : Word) (s : State) : Answer := .next { s with timer := s.timer.writeControl (v ||| 0x100) }.ack

/-- TIMER_COMPARE: a write of TimerCompare (R153). -/
def execTimerCompare (v : Word) (s : State) : Answer := .next { s with timer := s.timer.writeCompare v }.ack

/-- TIMER_STATUS_CLEAR: a write of TimerStatus; `setNow`, an overflow falls at the same moment (R122, R153, R155). -/
def execTimerStatusClear (v : Word) (setNow : Bool) (s : State) : Answer :=
  .next { s with timer := s.timer.writeStatus v setNow }.ack

/-- HOST_ACCESS_ERROR: a host access arrives and is judged by R121. An access of another width or alignment is refused with
an error and has no effect; an access that R121 accepts is performed (R122). -/
def execHostAccessError (a : HostAccess) (s : State) : Answer := .next (s.hostAccess a)

/-- REGISTER_WRITE: a word write at any offset of the window: its register's fields are stored, its action performed, or the
write ignored (R122, R124). -/
def execRegisterWrite (offset : BitVec 8) (v : Word) (s : State) : Answer :=
  .next (s.hostAccess { isWrite := true, size := .word, offset := offset, value := v })

end Sys2Proof.Machine
end

