-- ==== Sys2Proof/Machine/TimeSteps.lean ====
section
/-! DEFINITION. The meanings of the timebase's and the event pins' commands, and one TBCLK period (R142, R143, R149, R150,
R153 to R155). -/

namespace Sys2Proof.Machine

/-- EPOCH_EVENT: the divider completes a period (R149, R150). -/
def execEpochEvent (s : State) : Answer := .next s.epochEvent

/-- EV_PIN_CHANGE: EVA or EVB takes a level (R142). -/
def execEvPinChange (p : EvPin) (level : Bool) (s : State) : Answer :=
  .next { s with ev := s.ev.setDetector p ((s.ev.detector p).pinChange level) }

/-- FILTERED_LEVEL_CHANGE: the pin has held its candidate level for 2 TBCLK periods (R142, R143). An idle filter has no
candidate. -/
def execFilteredLevelChange (p : EvPin) (s : State) : Answer :=
  .next { s with ev := s.ev.changeDetector p (s.ev.detector p).settle }

/-- The tick of the interval timer for a timer that satisfies `p`, Run being set: clocked by TBCLK, or by the epoch step
that is pending, which is then taken whole (R33, R154, R155). A tick clocked by TBCLK that is due at the moment of the epoch
step performing the soft reset comes after it (R135), finds Run clear, and neither ticks nor raises: DESIGN CHOICE, unsafe
(notes/assumptions/17.md). One that is due at the moment of a TimerControl write that selects Epoch comes after the write (R155),
finds a clock that gives no such tick, and does not fall: DESIGN CHOICE, unsafe (notes/assumptions/18.md). -/
def State.tickWhere (s : State) (p : Timer → Bool) : State :=
  if s.timer.run && p s.timer then
    if s.timer.clock = .epoch then
      if s.ageingStepPending then s.takeEpochStep else s
    else s.clockTick
  else s

/-- TIMER_TICK: the prescaler period or the epoch step yields a tick (R154, R155). -/
def execTimerTick (s : State) : Answer := .next (s.tickWhere fun _ => true)

/-- INTERVAL_MATCH: the tick that brings the count to the compare (R154). -/
def execIntervalMatch (s : State) : Answer := .next (s.tickWhere Timer.matches)

/-- TIMER_OVERFLOW: the FreeRun tick at count 4095 (R154). -/
def execTimerOverflow (s : State) : Answer := .next (s.tickWhere Timer.overflows)

/-- One whole TBCLK period passes at a pin's detector (R142, R143). -/
def State.detectorPeriod (s : State) (p : EvPin) : State :=
  { s with ev := s.ev.changeDetector p (s.ev.detector p).period }

/-- One TBCLK period passes: at the epoch divider, at the interval timer's prescaler and at the two detector filters. -/
def State.tbclk (s : State) : State := (s.epochPeriodTick.timerPeriod.detectorPeriod .eva).detectorPeriod .evb

end Sys2Proof.Machine
end

