-- ==== Sys2Proof/Machine/PowerSteps.lean ====
section
/-! DEFINITION. The meanings of power-on reset, of the SRST_N pin and of PORT_READY (R114, R158 to R160, R165). -/

namespace Sys2Proof.Machine

/-- The state after power-on reset with the pins at given levels: Hold, the ports' pins and the filtered levels are read from
them, all else takes its default (R20, R142, R158). -/
def State.poweredOn (pins : Pins) : State :=
  { State.reset with
    ports := Vector.ofFn fun n : Fin 8 => { Port.initial with resetLow := !pins.agrstN.getLsbD n.val }
    ev := { State.reset.ev with eva := Detector.initial pins.eva, evb := Detector.initial pins.evb }
    power := { State.reset.power with hold := !pins.srstN, portReady := pins.portReady } }

/-- POWER_ON_RESET (R158). It sends nothing, so what was sent before it stays sent; the waiting commands are not the
gateway's. -/
def execPowerOnReset (pins : Pins) (s : State) : Answer :=
  .next { State.poweredOn pins with out := s.out, pending := s.pending }

/-- SRST_N_LOW: SRST_N goes low, setting Hold (R159). -/
def execSrstNLow (s : State) : Answer := .next { s with power := { s.power with hold := true } }

/-- SRST_N_HIGH: the rising edge of SRST_N clears Hold and arms the soft reset (R159, R160). A pin already high has no
rising edge. -/
def execSrstNHigh (s : State) : Answer :=
  .next (if s.power.hold then { s with power := { s.power with hold := false, resetArmed := true } } else s)

/-- PORT_READY takes a level: sampled high in Waking, it makes the device Operational; in the other states its level has no
effect (R114). -/
def execPortReady (level : Bool) (s : State) : Answer :=
  .next { s with power := { s.power with
    portReady := level
    device := if level && decide (s.power.device = .waking) then .operational else s.power.device } }

end Sys2Proof.Machine
end

