-- ==== Sys2Proof/Machine/Dispatch.lean ====
section
/-! DEFINITION. What each command does to everything but the queue. -/

namespace Sys2Proof.Machine

def exec (i : Instr) (s : State) : Host.Outcome State Fault Refusal :=
  match i with
  | .powerOnReset pins => Sys2Proof.Machine.execPowerOnReset pins s
  | .admission port msg => Sys2Proof.Machine.execAdmission port msg s
  | .agrstNAssertion port => Sys2Proof.Machine.execAgrstNAssertion port s
  | .agrstNRelease port => Sys2Proof.Machine.execAgrstNRelease port s
  | .portResetStep => Sys2Proof.Machine.execPortResetStep s
  | .newAgentItemStep => Sys2Proof.Machine.execNewAgentItemStep s
  | .signal => Sys2Proof.Machine.execSignal s
  | .tagInUse => Sys2Proof.Machine.execTagInUse s
  | .replayStep => Sys2Proof.Machine.execReplayStep s
  | .downstreamRequest => Sys2Proof.Machine.execDownstreamRequest s
  | .downstreamResponse gtag status data => Sys2Proof.Machine.execDownstreamResponse gtag status data s
  | .epochEvent => Sys2Proof.Machine.execEpochEvent s
  | .epochStep => Sys2Proof.Machine.execEpochStep s
  | .missTimeout => Sys2Proof.Machine.execMissTimeout s
  | .reservationExpiry => Sys2Proof.Machine.execReservationExpiry s
  | .backlogService => Sys2Proof.Machine.execBacklogService s
  | .insertAddress => Sys2Proof.Machine.execInsertAddress s
  | .insertRights => Sys2Proof.Machine.execInsertRights s
  | .purgeEntry => Sys2Proof.Machine.execPurgeEntry s
  | .purgeSegment => Sys2Proof.Machine.execPurgeSegment s
  | .purgeAll => Sys2Proof.Machine.execPurgeAll s
  | .readEntry => Sys2Proof.Machine.execReadEntry s
  | .probe => Sys2Proof.Machine.execProbe s
  | .bindAgent => Sys2Proof.Machine.execBindAgent s
  | .unbindAgent => Sys2Proof.Machine.execUnbindAgent s
  | .writeContext => Sys2Proof.Machine.execWriteContext s
  | .readContext => Sys2Proof.Machine.execReadContext s
  | .suspendContext => Sys2Proof.Machine.execSuspendContext s
  | .resumeContext => Sys2Proof.Machine.execResumeContext s
  | .abortParked => Sys2Proof.Machine.execAbortParked s
  | .clearReservation => Sys2Proof.Machine.execClearReservation s
  | .enterStandby => Sys2Proof.Machine.execEnterStandby s
  | .armSoftReset => Sys2Proof.Machine.execArmSoftReset s
  | .badCommand => Sys2Proof.Machine.execBadCommand s
  | .cmdIssue value => Sys2Proof.Machine.execCmdIssue value s
  | .resultPop value => Sys2Proof.Machine.execResultPop value s
  | .missPop value => Sys2Proof.Machine.execMissPop value s
  | .faultPop value => Sys2Proof.Machine.execFaultPop value s
  | .cmdDroppedClear value sameMoment => Sys2Proof.Machine.execCmdDroppedClear value sameMoment s
  | .eventRaise value => Sys2Proof.Machine.execEventRaise value s
  | .eventClear value sameMoment => Sys2Proof.Machine.execEventClear value sameMoment s
  | .eventPermit value => Sys2Proof.Machine.execEventPermit value s
  | .deliverEnable value => Sys2Proof.Machine.execDeliverEnable value s
  | .claim => Sys2Proof.Machine.execClaim s
  | .complete value => Sys2Proof.Machine.execComplete value s
  | .serviceStatusClear value => Sys2Proof.Machine.execServiceStatusClear value s
  | .extEventConfig value => Sys2Proof.Machine.execExtEventConfig value s
  | .evPinChange pin level => Sys2Proof.Machine.execEvPinChange pin level s
  | .filteredLevelChange pin => Sys2Proof.Machine.execFilteredLevelChange pin s
  | .signalCodeRead agent => Sys2Proof.Machine.execSignalCodeRead agent s
  | .epochStatusRead sameMoment => Sys2Proof.Machine.execEpochStatusRead sameMoment s
  | .deviceConfig value => Sys2Proof.Machine.execDeviceConfig value s
  | .timerControl value => Sys2Proof.Machine.execTimerControl value s
  | .resetAction value => Sys2Proof.Machine.execResetAction value s
  | .timerCompare value => Sys2Proof.Machine.execTimerCompare value s
  | .timerStatusClear value sameMoment => Sys2Proof.Machine.execTimerStatusClear value sameMoment s
  | .timerTick => Sys2Proof.Machine.execTimerTick s
  | .intervalMatch => Sys2Proof.Machine.execIntervalMatch s
  | .timerOverflow => Sys2Proof.Machine.execTimerOverflow s
  | .srstNLow => Sys2Proof.Machine.execSrstNLow s
  | .srstNHigh => Sys2Proof.Machine.execSrstNHigh s
  | .portReady level => Sys2Proof.Machine.execPortReady level s
  | .hostAccessError acc => Sys2Proof.Machine.execHostAccessError acc s
  | .registerWrite offset value => Sys2Proof.Machine.execRegisterWrite offset value s

end Sys2Proof.Machine
end

