-- ==== Sys2Proof/Safety.lean ====
section
/-! DEFINITION. The terms in which claims about the gateway are stated: which step of the decision point is ready, in the
words of R24 to R31, and the invariants of its state. -/

namespace Sys2Proof.Machine

/-! ### Readiness -/

/-- At least one credit is free (R30). -/
abbrev State.HasCredit (s : State) : Prop := ∃ g : GatewayTag, s.sys.table[g] = none

/-- The condition of a request step: a free credit and an Operational device (R30). -/
abbrev State.GateOpen (s : State) : Prop := s.HasCredit ∧ s.power.device = .operational

/-- Neither an epoch step nor a port reset step is pending (R24, priorities 1 and 2). -/
abbrev State.NoUrgentStep (s : State) : Prop :=
  s.dp.epoch = none ∧ ∀ n : AgentId, s.ports[n].resetPending = false

/-- The replay queue's head can be taken (R27). -/
abbrev State.ReplayReady (s : State) : Prop := s.NoUrgentStep ∧ s.GateOpen

/-- The command FIFO's head can be executed: no urgent step, no replay that can be taken, and room for a result (R28). -/
abbrev State.CommandReady (s : State) : Prop :=
  s.NoUrgentStep ∧ (s.dp.replay = [] ∨ ¬ s.GateOpen) ∧ s.cmd.results.length < 4

/-- The command FIFO's head is a command of kind `k` with the arguments `a`, and it can be executed (R28). -/
abbrev State.CommandAtHead (s : State) (k : Byte) (a : Vector Word 4) : Prop :=
  s.CommandReady ∧ s.cmd.fifo.head? = some { kind := k, args := a }

/-- Nothing of higher priority holds back a new agent item (R24, R29). -/
abbrev State.NewItemReady (s : State) : Prop :=
  s.NoUrgentStep ∧ s.dp.replay = [] ∧ (s.cmd.fifo = [] ∨ 4 ≤ s.cmd.results.length)

/-- Port `n`'s head may be taken as a new agent item: its agent's context is not suspended, and the head needs no credit or
the gate is open (R29). -/
abbrev State.HeadEligible (s : State) (n : AgentId) : Prop :=
  ∃ it ∈ s.ports[n].line.head?,
    (∀ c ∈ s.bindings[n], s.contexts[c].suspended = false) ∧ (it.free = true ∨ s.GateOpen)

/-- Port `n` is the first eligible port from the round-robin pointer on (R29). -/
abbrev State.Served (s : State) (n : AgentId) : Prop :=
  s.HeadEligible n ∧ ∀ k : Fin 8, k < n - s.dp.pointer → ¬ s.HeadEligible (s.dp.pointer + k)

/-- Port `n` is served and its head is `it`, with `rest` behind it. -/
abbrev State.ServesItem (s : State) (n : AgentId) (it : Item) (rest : List Item) : Prop :=
  s.NewItemReady ∧ s.Served n ∧ s.ports[n].line = it :: rest

/-! ### The shapes of a conclusion -/

/-- The state after a host command of kind `k` whose effect left `u`: the entry leaves the command FIFO, the result record
takes the next sequence number, CommandDone (rank 7) is raised, and the backlog is served at the end of the step (R86, R128,
R129). -/
def State.afterCommand (u : State) (k : Byte) (st : Status) (d0 d1 : Word) : State :=
  State.serveBacklog { u with
    cmd := { u.cmd with
      fifo := u.cmd.fifo.tail
      results := u.cmd.results ++ [{ seq := u.cmd.seq, kind := k, status := st, data0 := d0, data1 := d1 }]
      seq := u.cmd.seq + 1 }
    ev := { u.ev with requests := u.ev.requests ||| 0x040 } }

/-- The state after the head item of port `n` is taken, with `rest` left in the line: the round-robin pointer names the next
port (R29). -/
def State.afterTaking (s : State) (n : AgentId) (rest : List Item) : State :=
  { s with
    ports := s.ports.set n { s.ports[n] with line := rest }
    dp := { s.dp with pointer := n + 1 } }

/-- Gateway tag `g` is the lowest-numbered free one (R30). -/
abbrev State.LowestFree (s : State) (g : GatewayTag) : Prop :=
  s.sys.table[g] = none ∧ ∀ h : GatewayTag, h < g → s.sys.table[h] ≠ none

/-- Entry `i` is the one non-Empty entry that holds the key `k` (R57). -/
abbrev State.KeyAt (s : State) (k : Key) (i : EntryId) : Prop :=
  (s.cache.entries[i].state ≠ .empty ∧ s.cache.entries[i].key = k) ∧
    ∀ j : EntryId, s.cache.entries[j].state ≠ .empty → s.cache.entries[j].key = k → j = i

/-- No non-Empty entry holds the key `k`. -/
abbrev State.KeyAbsent (s : State) (k : Key) : Prop :=
  ∀ j : EntryId, s.cache.entries[j].state ≠ .empty → s.cache.entries[j].key ≠ k

/-- A reservation lies in a frame (R66): its line is one of the frame's 128. -/
abbrev Reservation.InFrame (r : Reservation) (bank : BitVec 4) (frame : BitVec 20) : Prop :=
  r.bank = bank ∧ frame.toNat * 4096 ≤ r.line.toNat ∧ r.line.toNat < frame.toNat * 4096 + 4096

/-- `v` is `s`'s reservations with those of the frames that satisfy `p` cleared (R66). -/
abbrev State.FramesCleared (s : State) (p : BitVec 4 → BitVec 20 → Prop) (v : Vector Reservation 8) : Prop :=
  ∀ n : AgentId,
    ((s.resv[n].valid = true ∧ ∃ b f, p b f ∧ s.resv[n].InFrame b f) → v[n] = Reservation.cleared) ∧
    (¬ (s.resv[n].valid = true ∧ ∃ b f, p b f ∧ s.resv[n].InFrame b f) → v[n] = s.resv[n])

/-- A key argument pair is in range (R65). -/
abbrev KeyInRange (seg vpn : Word) : Prop := 1 ≤ seg.toNat ∧ seg.toNat ≤ 0xFFFF ∧ vpn.toNat ≤ 0x3FFFF

/-- The key a pair of arguments in range names (R65). -/
abbrev keyNamed (seg vpn : Word) : Key := ⟨BitVec.ofNat 16 seg.toNat, BitVec.ofNat 18 vpn.toNat⟩

/-- `m'` is `m` with the parked records that satisfy `p` removed: members left without a record leave the set, their queued
reports are withdrawn and a presented one is marked Resolved (R80, R85). -/
abbrev MissBlock.RemovedFrom (m : MissBlock) (p : Parked → Bool) (m' : MissBlock) : Prop :=
  m'.parked = m.parked.filter (fun q => !p q) ∧
  m'.members = m.members.filter (fun x => m'.parked.any fun q => q.item.key == x.key) ∧
  m'.queue = m.queue.filter (fun r => r.notParked || m'.parked.any fun q => q.item.key == r.key) ∧
  m'.latch = m.latch.map (fun l =>
    if l.report.notParked = false ∧ m'.parked.any (fun q => q.item.key == l.report.key) = false
    then { l with resolved := true } else l) ∧
  m'.lost = m.lost

/-! ### Tables of the spec, as the statements read them -/

/-- Every row of the table that executes the head of the command FIFO (R131, R128). -/
def hostCommandSteps : List Instr :=
  [.insertAddress, .insertRights, .purgeEntry, .purgeSegment, .purgeAll, .readEntry, .probe, .bindAgent, .unbindAgent,
   .writeContext, .readContext, .suspendContext, .resumeContext, .abortParked, .clearReservation, .enterStandby,
   .armSoftReset, .badCommand]

/-- Every row of the table that takes a new agent item. -/
def newItemSteps : List Instr := [.newAgentItemStep, .signal, .tagInUse]

/-- The request kinds a page type allows: the "yes" cells of R60's table. -/
def PageType.kinds : PageType → List AccessKind
  | .dataRead => [.read, .reserveRead]
  | .dataWrite => [.read, .write, .reserveRead, .conditionalWrite]
  | .fetch => [.read, .fetch]
  | .fetchOnly => [.fetch]

/-- The number of a fault kind, as R115 tabulates it. -/
def faultNumber : FaultKind → Nat
  | .malformed => 1
  | .tagInUse => 2
  | .unbound => 3
  | .slotEmpty => 4
  | .deviceSpace => 5
  | .miss => 6
  | .parkFull => 7
  | .missTimeout => 8
  | .hostAbort => 9
  | .pageType => 10
  | .privilege => 11
  | .pidMismatch => 12
  | .pidWriteDisabled => 13
  | .memoryError => 14
  | .resetAbort => 15

/-- The number of a request kind in a fault record, as R116 lists them. -/
def requestNumber : RequestKind → Nat
  | .access .read => 0
  | .access .write => 1
  | .access .fetch => 2
  | .access .reserveRead => 3
  | .access .conditionalWrite => 4
  | .signal => 5

/-- The number of a status, as R130 tabulates it. -/
def statusNumber : Status → Nat
  | .ok => 0
  | .notFound => 1
  | .noFreeEntry => 2
  | .alreadyBound => 3
  | .agentBusy => 4
  | .badArgument => 5
  | .badCommand => 6
  | .notIdle => 7
  | .alreadyPending => 8
  | .faulted => 9

/-- The rank of an event source, as R134 tabulates it. -/
def sourceRank : Source → Nat
  | .serviceError => 1
  | .extEventA => 2
  | .missReport => 3
  | .faultLogged => 4
  | .agentSignal => 5
  | .intervalMatch => 6
  | .commandDone => 7
  | .extEventB => 8
  | .timerOverflow => 9

/-- The period of a timer clock in TBCLK periods, as R155 lists them; the Epoch clock has none. -/
def periodOfClock : TimerClock → Nat
  | .us1 => 1
  | .us16 => 16
  | .us256 => 256
  | .epoch => 0

/-- The period of an epoch in TBCLK periods, as R149 tabulates it. -/
def periodOfSelect (select : BitVec 2) : Nat :=
  match select.toNat with
  | 0 => 512
  | 1 => 2048
  | 2 => 16384
  | _ => 131072

/-- The value of a field of a context, 0 to 11, as R51's table gives it. -/
def Context.fieldValue (x : Context) (f : Nat) : Nat :=
  match f with
  | 0 => x.segs[0].toNat
  | 1 => x.segs[1].toNat
  | 2 => x.segs[2].toNat
  | 3 => x.segs[3].toNat
  | 4 => x.pids[0].pid.toNat + if x.pids[0].writeDisable then 0x10000 else 0
  | 5 => x.pids[1].pid.toNat + if x.pids[1].writeDisable then 0x10000 else 0
  | 6 => x.pids[2].pid.toNat + if x.pids[2].writeDisable then 0x10000 else 0
  | 7 => x.pids[3].pid.toNat + if x.pids[3].writeDisable then 0x10000 else 0
  | 8 => x.privilege.toNat
  | 9 => if x.mode = .direct then 1 else 0
  | 10 => if x.policy = .fault then 1 else 0
  | _ => if x.suspended then 1 else 0

/-- The value of a field, 0 to 12; field 12 is the sum of 2 to the power n for each agent n bound to the context (R51). -/
def State.fieldValue (s : State) (c : ContextId) (f : Nat) : Nat :=
  if f = 12 then ((List.finRange 8).map fun n => if s.bindings[n] = some c then 2 ^ n.val else 0).sum
  else s.contexts[c].fieldValue f

/-- The largest value WriteContext takes for a writable field, 0 to 10 (R51). -/
def fieldLimit (f : Nat) : Nat :=
  if f ≤ 3 then 0xFFFF else if f ≤ 7 then 0x1FFFF else if f = 8 then 3 else 1

/-- A source is eligible: flagged, permitted, and of a rank below the service level (R136). -/
abbrev EventBlock.Eligible (e : EventBlock) (x : Source) : Prop :=
  e.requests.getLsbD (x.rank - 1) = true ∧ e.permits.getLsbD (x.rank - 1) = true ∧
    match e.level with
    | none => True
    | some y => x.rank < y.rank

/-- The member of the key that `p` is parked under is Unreported (R80). -/
abbrev MissBlock.UnreportedAt (m : MissBlock) (p : Parked) : Prop :=
  ∃ x ∈ m.members, x.key = p.item.key ∧ x.state = .unreported

/-- A report enters the report queue at its tail, or goes on at once into an empty latch, and MissReport (rank 3) is raised
(R83, R84). It is meant for states where an empty latch goes with an empty queue. -/
def State.reportEnters (s : State) (r : Report) : State :=
  { s with
    miss := { s.miss with
      queue := if s.miss.latch = none then [] else s.miss.queue ++ [r]
      latch := if s.miss.latch = none then some ⟨r, false⟩ else s.miss.latch }
    ev := { s.ev with requests := s.ev.requests ||| 0x004 } }

/-- The state of a member whose report has just entered: Presented where it went on into the latch, Queued elsewhere (R80). -/
def MissBlock.enteredState (m : MissBlock) : ReportState := if m.latch = none then .presented else .queued

/-- One service of the backlog: the member of `p`'s key is reported, with `p` its earliest record (R86). -/
def State.reportedFor (s : State) (p : Parked) : State :=
  State.reportEnters
    { s with miss := { s.miss with
        members := s.miss.members.map fun x => if x.key = p.item.key then { x with state := s.miss.enteredState } else x } }
    { key := p.item.key, agent := p.item.agent, ctx := p.item.ctx, kind := p.item.acc.kind, notParked := false }

/-- Gateway tag `g` is held by the record `r`, whose request has been accepted by the interconnect (R109). -/
abbrev State.Sent (s : State) (g : GatewayTag) (r : OutRecord) : Prop :=
  s.sys.table[g] = some r ∧ ∀ q ∈ s.sys.sendq, q.gtag ≠ g

/-- The reservation of a request's agent as a fault leaves it: cleared by a ReserveRead or ConditionalWrite, else as it was
(R97, R98). -/
def State.resvAfterFault (s : State) (r : Request) : Vector Reservation 8 :=
  if r.acc.kind = .reserveRead ∨ r.acc.kind = .conditionalWrite then s.resv.set r.agent Reservation.cleared else s.resv

/-- The power block after an action that wakes the device (R164, R114). -/
def Power.woken (p : Power) : Power :=
  if p.device = .standby then { p with device := if p.portReady then .operational else .waking } else p

/-- The command `c` performs the soft reset: it is the epoch step that finds the reset due (R161, R162). -/
abbrev State.SoftResets (s : State) (c : Instr) (t : State) : Prop :=
  c = .epochStep ∧ s.dp.epoch = some false ∧ s.power.resetArmed = true ∧ (∀ g : GatewayTag, s.sys.table[g] = none) ∧
    t.power.resetArmed = false ∧ t.power.softResetSeen = true

/-! ### Invariants -/

/-- The counts and queues that every step keeps in range by itself: all but those that `Bounded` adds (R9, R27, R77 to R84, R90,
R95, R117, R126, R133, R145, R148, R153). -/
abbrev State.InRange (s : State) : Prop :=
  (∀ n : AgentId, s.ports[n].line.length ≤ 4) ∧
  s.miss.parked.length + s.dp.replay.length ≤ 16 ∧
  s.miss.queue.length ≤ 8 ∧ s.miss.lost ≤ 255 ∧
  s.log.records.length ≤ 16 ∧ s.log.lost ≤ 255 ∧
  s.cmd.fifo.length ≤ 4 ∧ s.cmd.results.length ≤ 4 ∧
  s.ev.stack.length ≤ 3 ∧ (∀ n : AgentId, s.ev.mail[n].count ≤ 15) ∧
  (∀ p ∈ s.miss.parked, p.age ≤ 15) ∧ (∀ n : AgentId, s.resv[n].age ≤ 15) ∧
  s.epoch.divider < epochPeriod s.config.periodSelect ∧
  1 ≤ s.timer.compare.toNat ∧
  (s.timer.prescaler = 0 ∨ s.timer.prescaler < s.timer.clock.period)

/-- Every count is in its range and every queue within its capacity: those of `InRange`, each flush count (R17), the miss page
set (R80) and the send queue (R106). -/
abbrev State.Bounded (s : State) : Prop :=
  s.InRange ∧ (∀ n : AgentId, s.ports[n].flush ≤ 4) ∧ s.miss.members.length ≤ 16 ∧ s.sys.sendq.length ≤ 16

/-- The translation cache: no two non-Empty entries with one key, Empty entries all 0, no key with segment id 0, and no
rights or use flags in an AddressOnly entry (R55, R57). -/
abbrev State.CacheSound (s : State) : Prop :=
  (∀ i j : EntryId, s.cache.entries[i].state ≠ .empty → s.cache.entries[j].state ≠ .empty →
    s.cache.entries[i].key = s.cache.entries[j].key → i = j) ∧
  (∀ i : EntryId, s.cache.entries[i].state = .empty → s.cache.entries[i] = Entry.cleared) ∧
  (∀ i : EntryId, s.cache.entries[i].state ≠ .empty → s.cache.entries[i].key.seg ≠ 0) ∧
  (∀ i : EntryId, s.cache.entries[i].state = .addressOnly →
    s.cache.entries[i] = Entry.addressed s.cache.entries[i].key s.cache.entries[i].bank s.cache.entries[i].frame
      s.cache.entries[i].pinned)

/-- Reservations: a clear one holds line 0 and age 0, a valid one a line that is a multiple of 32, and an unbound agent holds
none (R95). -/
abbrev State.ReservationsSound (s : State) : Prop :=
  ∀ n : AgentId, (s.resv[n].valid = false → s.resv[n] = Reservation.cleared) ∧ s.resv[n].line.toNat % 32 = 0 ∧
    (s.bindings[n] = none → s.resv[n].valid = false)

/-- While an entry is Valid, no parked record has its key (R69). -/
abbrev State.NoneParkedUnderValid (s : State) : Prop :=
  ∀ i : EntryId, s.cache.entries[i].state = .valid → ∀ p ∈ s.miss.parked, p.item.key ≠ s.cache.entries[i].key

/-- The miss page set has exactly one member for each key parked, and the parked list is in admission order (R79, R80). -/
abbrev State.PageSetSound (s : State) : Prop :=
  (s.miss.members.map (·.key)).Nodup ∧
  (∀ m ∈ s.miss.members, ∃ p ∈ s.miss.parked, p.item.key = m.key) ∧
  (∀ p ∈ s.miss.parked, ∃ m ∈ s.miss.members, m.key = p.item.key) ∧
  s.miss.parked.Pairwise (fun p q => p.item.ord ≤ q.item.ord)

/-- A report belongs to a member: it is not flagged NotParked (R82). -/
abbrev Report.OfMember (r : Report) : Prop := r.notParked = false

/-- Each member has the report its state says, and no other: one in the queue while Queued, the one in the latch while
Presented, none while Unreported or Consumed; an empty latch goes with an empty queue (R80, R84). -/
abbrev State.ReportsSound (s : State) : Prop :=
  ((s.miss.queue.filter fun r => !r.notParked).map (·.key)).Nodup ∧
  (∀ r ∈ s.miss.queue, r.OfMember → ∃ m ∈ s.miss.members, m.key = r.key ∧ m.state = .queued) ∧
  (∀ m ∈ s.miss.members, m.state = .queued → ∃ r ∈ s.miss.queue, r.OfMember ∧ r.key = m.key) ∧
  (∀ l ∈ s.miss.latch, l.resolved = false → l.report.OfMember →
    ∃ m ∈ s.miss.members, m.key = l.report.key ∧ m.state = .presented) ∧
  (∀ m ∈ s.miss.members, m.state = .presented →
    ∃ l ∈ s.miss.latch, l.resolved = false ∧ l.report.OfMember ∧ l.report.key = m.key) ∧
  (s.miss.latch = none → s.miss.queue = [])

/-- How many records of agent `n` are orphaned. -/
def SysPort.orphans (y : SysPort) (n : AgentId) : Nat :=
  countIdx (fun o => match o with | some r => decide (r.agent = n) && r.orphaned | none => false) y.table

/-- The system port: each waiting request holds a gateway tag of its own, and each flush count is the number of orphaned
records of its agent (R17, R108). -/
abbrev State.DownstreamSound (s : State) : Prop :=
  (s.sys.sendq.map (·.gtag)).Nodup ∧ (∀ q ∈ s.sys.sendq, s.sys.table[q.gtag] ≠ none) ∧
  (∀ n : AgentId, s.ports[n].flush = s.sys.orphans n)

/-- The tags occupied by the requests of agent `n` that are in the gateway: waiting (conflict items aside), replaying, parked
or downstream and not orphaned (R5). -/
def State.occupied (s : State) (n : AgentId) : List AgentTag :=
  (s.ports[n].line.filter fun it => !it.conflict).map (·.tag) ++
  (s.dp.replay.filter fun r => decide (r.agent = n)).map (·.tag) ++
  (s.miss.parked.filter fun p => decide (p.item.agent = n)).map (·.item.tag) ++
  ((List.finRange 16).filterMap fun g => s.sys.table[g]).filterMap fun r =>
    if r.agent = n ∧ r.orphaned = false then some r.tag else none

/-- A tag is in use exactly when one request occupies it, and never more than one does (R5); while a port's flush count is not
0, its agent has no request in the gateway but the orphaned ones (R16, R19). -/
abbrev State.TagsSound (s : State) : Prop :=
  ∀ n : AgentId, (s.occupied n).Nodup ∧ (∀ t : AgentTag, s.ports[n].uses t = true ↔ t ∈ s.occupied n) ∧
    (0 < s.ports[n].flush → s.occupied n = [])

end Sys2Proof.Machine
end

