-- ==== Sys2Proof/Certificates/Slice0/Obligations.lean ====
section
/-! DEFINITION. The statements for the provers. Each says what one group of commands or one block of the gateway does, in the
words of the rules it cites; OBLIGATIONS.json lists them. Completion statements give the whole next state, so that what they
do not name is unchanged. -/

open Sys2Proof Sys2Proof.Machine

/-! ### The queue and the tick -/

/-- The command at the front of the queue is run on the state with the queue's rest. -/
def Obligations.StepRunsFrontCommand : Prop :=
  ∀ (c : Instr) (rest : List Instr) (s : State), s.pending = c :: rest → step s = exec c { s with pending := rest }

/-- On an empty queue one TBCLK period passes, and nothing outside the epoch generator, the pending epoch step, the interval
timer and the event block changes (the model's choice, notes/assumptions/2.md; the periods are those of R149, R155 and
R142). A tick raises IntervalMatch (rank 6) or TimerOverflow (rank 9), a settled filter that turns its effective level to 1
raises ExtEventA (rank 2) or ExtEventB (rank 8), and nothing else is raised (R143, R154, R155). -/
def Obligations.EmptyQueuePassesOneTbclkPeriod : Prop :=
  ∀ s : State, s.pending = [] →
    ∃ t : State, step s = .next t ∧
      t = { s with epoch := t.epoch, dp := t.dp, timer := t.timer, ev := t.ev } ∧
      t.ev = { s.ev with requests := t.ev.requests, eva := t.ev.eva, evb := t.ev.evb } ∧
      t.ev.requests = s.ev.requests |||
        (if s.timer.run = true ∧ s.timer.clock ≠ .epoch ∧ periodOfClock s.timer.clock ≤ s.timer.prescaler + 1 then
          (if s.timer.count.toNat + 1 = s.timer.compare.toNat then 0x020
            else if s.timer.mode = .freeRun ∧ s.timer.count.toNat = 4095 then 0x100 else 0)
        else 0) |||
        (if (s.ev.eva.polarity = .rising ∧ s.ev.eva.filtered = false ∧ s.ev.eva.filter = .counting true 1) ∨
            (s.ev.eva.polarity = .falling ∧ s.ev.eva.filtered = true ∧ s.ev.eva.filter = .counting false 1)
          then 0x002 else 0) |||
        (if (s.ev.evb.polarity = .rising ∧ s.ev.evb.filtered = false ∧ s.ev.evb.filter = .counting true 1) ∨
            (s.ev.evb.polarity = .falling ∧ s.ev.evb.filtered = true ∧ s.ev.evb.filter = .counting false 1)
          then 0x080 else 0) ∧
      (s.epoch.divider + 1 < periodOfSelect s.config.periodSelect →
        t.epoch = { s.epoch with divider := s.epoch.divider + 1 } ∧ t.dp = s.dp) ∧
      (periodOfSelect s.config.periodSelect ≤ s.epoch.divider + 1 →
        t.epoch = { s.epoch with
          divider := 0
          count := s.epoch.count + 1
          flag := if s.epoch.armed then true else s.epoch.flag
          readNow := false } ∧
        t.dp = { s.dp with epoch := some s.epoch.readNow }) ∧
      (s.timer.run = false ∨ s.timer.clock = .epoch → t.timer = s.timer) ∧
      (s.timer.run = true → s.timer.clock ≠ .epoch → s.timer.prescaler + 1 < periodOfClock s.timer.clock →
        t.timer = { s.timer with prescaler := s.timer.prescaler + 1 }) ∧
      (s.timer.run = true → s.timer.clock ≠ .epoch → periodOfClock s.timer.clock ≤ s.timer.prescaler + 1 →
        t.timer = Timer.tick { s.timer with prescaler := 0 }) ∧
      (s.ev.eva.filter = .idle → t.ev.eva = s.ev.eva) ∧
      (∀ level, s.ev.eva.filter = .counting level 0 → t.ev.eva = { s.ev.eva with filter := .counting level 1 }) ∧
      (∀ level, s.ev.eva.filter = .counting level 1 → t.ev.eva = { s.ev.eva with filtered := level, filter := .idle }) ∧
      (s.ev.evb.filter = .idle → t.ev.evb = s.ev.evb) ∧
      (∀ level, s.ev.evb.filter = .counting level 0 → t.ev.evb = { s.ev.evb with filter := .counting level 1 }) ∧
      (∀ level, s.ev.evb.filter = .counting level 1 → t.ev.evb = { s.ev.evb with filtered := level, filter := .idle })

/-! ### Power-on reset and the pins -/

/-- Power-on reset sets every field to the power-on column of section 12.6, reads Hold, the ports and the filtered levels
from the pins, and sends nothing (R158, R20). That the model's own count of admissions returns to 0, and that the record `out`
of what was sent and the queue `pending` of waiting commands are kept, is the model's choice (notes/assumptions/10.md). -/
def Obligations.PowerOnResetSetsEveryField : Prop :=
  ∀ (pins : Pins) (s : State), ∃ t : State, exec (.powerOnReset pins) s = .next t ∧
    (∀ n : AgentId, t.ports[n] =
      { line := [], tags := 0, flush := 0, resetLow := !pins.agrstN.getLsbD n.val, resetPending := false }) ∧
    t.admSeq = 0 ∧ t.admOrder = 0 ∧ t.dp = { pointer := 0, epoch := none, replay := [] } ∧
    (∀ c : ContextId, (∀ i : Fin 4, t.contexts[c].segs[i] = 0 ∧ t.contexts[c].pids[i] = ⟨0, false⟩) ∧
      t.contexts[c].privilege = 3 ∧ t.contexts[c].mode = .translated ∧ t.contexts[c].policy = .park ∧
      t.contexts[c].suspended = false) ∧
    (∀ n : AgentId, t.bindings[n] = none) ∧
    (∀ i : EntryId, t.cache.entries[i] = Entry.cleared) ∧ t.cache.pointer = 0 ∧
    t.miss = { parked := [], members := [], queue := [], latch := none, lost := 0 } ∧
    (∀ n : AgentId, t.resv[n] = { valid := false, bank := 0, line := 0, age := 0 }) ∧
    (∀ g : GatewayTag, t.sys.table[g] = none) ∧ t.sys.sendq = [] ∧ t.sys.stray = false ∧
    t.log = { records := [], seq := 0, lost := 0 } ∧
    (∀ i : Fin 4, t.cmd.args[i] = 0) ∧ t.cmd.fifo = [] ∧ t.cmd.results = [] ∧ t.cmd.seq = 0 ∧ t.cmd.dropped = false ∧
    t.ev.requests = 0 ∧ t.ev.permits = 0 ∧ t.ev.deliver = false ∧ t.ev.level = none ∧ t.ev.stack = [] ∧
    t.ev.overflow = false ∧ t.ev.underflow = false ∧
    t.ev.eva = { polarity := .rising, filtered := pins.eva, filter := .idle, pin := pins.eva } ∧
    t.ev.evb = { polarity := .rising, filtered := pins.evb, filter := .idle, pin := pins.evb } ∧
    (∀ n : AgentId, t.ev.mail[n] = { code := 0, count := 0, pending := false }) ∧
    t.epoch = { divider := 0, count := 0, flag := false, armed := false, readNow := false } ∧
    t.timer = { count := 0, compare := 4095, clock := .us1, mode := .modulo, run := false, prescaler := 0,
                overflow := false } ∧
    t.config = { periodSelect := 1, missTimeout := 8, lifetime := 0 } ∧
    t.power = { device := .operational, hold := !pins.srstN, resetArmed := false, softResetSeen := false,
                portReady := pins.portReady } ∧
    t.portSleep = false ∧
    (∀ n : AgentId, t.portState n =
      if pins.agrstN.getLsbD n.val = false then .reset else if pins.srstN = false then .held else .opened) ∧
    t.out = s.out ∧ t.pending = s.pending

/-- The machine's reset state is what power-on reset leaves with SRST_N and AGRST_N high and the other pins low
(notes/assumptions/1.md), and every invariant holds in it. -/
def Obligations.ResetMeetsInvariants : Prop :=
  exec (.powerOnReset { srstN := true, agrstN := 0xFF, eva := false, evb := false, portReady := false }) State.reset =
    .next State.reset ∧
  State.reset.Bounded ∧ State.reset.CacheSound ∧ State.reset.ReservationsSound ∧ State.reset.NoneParkedUnderValid ∧
  State.reset.PageSetSound ∧ State.reset.ReportsSound ∧ State.reset.DownstreamSound ∧ State.reset.TagsSound

/-- The AGRST_N pins and the port states they give (R13, R15, R18). A level the pin already has changes nothing
(the model's reading, notes/assumptions/4.md). -/
def Obligations.PortResetPins : Prop :=
  ∀ (n : AgentId) (s : State),
    (s.ports[n].resetLow = false → ∃ t : State,
      exec (.agrstNAssertion n) s = .next t ∧
      t = { s with ports := s.ports.set n { s.ports[n] with resetLow := true, resetPending := true } } ∧
      t.portState n = .reset ∧ (∀ m, m ≠ n → t.portState m = s.portState m)) ∧
    (s.ports[n].resetLow = true → exec (.agrstNAssertion n) s = .next s) ∧
    (∃ t : State, exec (.agrstNRelease n) s = .next t ∧
      t = { s with ports := s.ports.set n { s.ports[n] with resetLow := false } } ∧
      (t.portState n =
        if s.ports[n].resetPending then .reset
        else if 0 < s.ports[n].flush then .flushing
        else if s.power.hold then .held
        else .opened) ∧
      (∀ m, m ≠ n → t.portState m = s.portState m))

/-- SRST_N: the falling edge sets Hold and nothing else; the rising edge clears it and arms the soft reset; ArmSoftReset
arms it, or answers AlreadyPending (R159, R160). A pin already high has no rising edge (the model's reading,
notes/assumptions/4.md). -/
def Obligations.HoldAndArming : Prop :=
  ∀ s : State,
    exec .srstNLow s = .next { s with power := { s.power with hold := true } } ∧
    (s.power.hold = true →
      exec .srstNHigh s = .next { s with power := { s.power with hold := false, resetArmed := true } }) ∧
    (s.power.hold = false → exec .srstNHigh s = .next s) ∧
    (∀ a, s.CommandAtHead 17 a →
      (s.power.resetArmed = true → exec .armSoftReset s = .next (s.afterCommand 17 .alreadyPending 0 0)) ∧
      (s.power.resetArmed = false →
        exec .armSoftReset s =
          .next (State.afterCommand { s with power := { s.power with resetArmed := true } } 17 .ok 0 0)))

/-- PORT_READY and the standby cycle: PORT_READY acts only in Waking; EnterStandby enters Standby from an idle gateway and
answers NotIdle in every other (R114, R163). -/
def Obligations.StandbyAndPortReady : Prop :=
  ∀ s : State,
    (∀ level, exec (.portReady level) s = .next { s with power := { s.power with
      portReady := level
      device := if s.power.device = .waking ∧ level = true then .operational else s.power.device } }) ∧
    (s.portSleep = true ↔ s.power.device = .standby) ∧
    (∀ a, s.CommandAtHead 16 a →
      ((∀ n : AgentId, s.ports[n].line = []) ∧ s.miss.parked = [] ∧ s.dp.replay = [] ∧
          (∀ g : GatewayTag, s.sys.table[g] = none) ∧ s.cmd.fifo.length = 1 →
        exec .enterStandby s =
          .next (State.afterCommand { s with power := { s.power with device := .standby } } 16 .ok 0 0)) ∧
      (¬ ((∀ n : AgentId, s.ports[n].line = []) ∧ s.miss.parked = [] ∧ s.dp.replay = [] ∧
          (∀ g : GatewayTag, s.sys.table[g] = none) ∧ s.cmd.fifo.length = 1) →
        exec .enterStandby s = .next (s.afterCommand 16 .notIdle 0 0)))

/-! ### Agent ports -/

/-- The form checks of R3: the malformed mark is clear exactly for the lengths, alignments and extents of its table, and a
request that passes them lies in one 64-byte block and one page. -/
def Obligations.MalformedMarkFollowsForm : Prop :=
  (∀ code, (Body.signal code).malformed = false) ∧
  ∀ a : Access,
    ((Body.access a).malformed = false ↔
      match a.kind with
      | .read | .write => 1 ≤ a.len.toNat ∧ a.len.toNat ≤ 64 ∧
          ∀ i < a.len.toNat, (a.addr.toNat + i) / 64 = a.addr.toNat / 64
      | .fetch => (∃ k, 1 ≤ k ∧ k ≤ 16 ∧ a.len.toNat = 4 * k) ∧ a.addr.toNat % 4 = 0 ∧
          ∀ i < a.len.toNat, (a.addr.toNat + i) / 64 = a.addr.toNat / 64
      | .reserveRead | .conditionalWrite => (a.len.toNat = 4 ∨ a.len.toNat = 8) ∧ a.addr.toNat % a.len.toNat = 0) ∧
    ((Body.access a).malformed = false →
      ∀ i < a.len.toNat, (a.addr.toNat + i) / 64 = a.addr.toNat / 64 ∧ (a.addr.toNat + i) / 4096 = a.addr.toNat / 4096)

/-- Admission: an Open port with room admits the offered message in one action, and wakes a device in Standby (R6, R8, R164).
Elsewhere the message stays offered (R1, R6); that the offer is no state of the gateway, so that the command changes nothing
and the agent offers the message again, is the model's choice (notes/assumptions/8.md), as is the count `admOrder`
(notes/assumptions/10.md). -/
def Obligations.AdmissionAdmitsOrWaits : Prop :=
  ∀ (n : AgentId) (m : Message) (s : State), m.linkOk = true →
    (s.portState n = .opened ∧ s.ports[n].line.length < 4 →
      exec (.admission n m) s = .next { s with
        ports := s.ports.set n { s.ports[n] with
          line := s.ports[n].line ++
            [{ seq := s.admSeq, ord := s.admOrder, tag := m.tag, body := m.body,
               malformed := if s.ports[n].tags.getLsbD m.tag.val then false else m.body.malformed,
               conflict := s.ports[n].tags.getLsbD m.tag.val }]
          tags := if s.ports[n].tags.getLsbD m.tag.val then s.ports[n].tags
            else s.ports[n].tags ||| (1#4 <<< m.tag.val) }
        admSeq := s.admSeq + 1
        admOrder := s.admOrder + 1
        power := s.power.woken }) ∧
    (¬ (s.portState n = .opened ∧ s.ports[n].line.length < 4) → exec (.admission n m) s = .next s)

/-- A message whose amount of write data the link cannot carry stops the machine (R2; the model's choice,
notes/assumptions/8.md). -/
def Obligations.AdmissionStopsOnBrokenMessage : Prop :=
  ∀ (n : AgentId) (a : Access) (t : AgentTag) (s : State),
    (a.data.length ≠
        if (a.kind = .write ∨ a.kind = .conditionalWrite) ∧ 1 ≤ a.len.toNat ∧ a.len.toNat ≤ 64 then a.len.toNat else 0) →
      exec (.admission n ⟨t, .access a⟩) s = .fault .linkBroken

/-- The port reset step of the lowest pending port discards what the gateway holds on the agent's behalf, orphans its
downstream items and touches nothing else (R16, R92). -/
def Obligations.PortResetStepDiscardsAgentState : Prop :=
  ∀ (n : AgentId) (s : State),
    s.dp.epoch = none → s.ports[n].resetPending = true → (∀ m : AgentId, m < n → s.ports[m].resetPending = false) →
      ∃ t : State, exec .portResetStep s = .next t ∧
        t = { s with ports := t.ports, miss := t.miss, dp := t.dp, sys := t.sys, resv := t.resv } ∧
        t.ports[n] = { s.ports[n] with
          line := []
          tags := 0
          flush := ((List.finRange 16).filter fun g => t.sys.table[g].any fun r => r.agent == n && r.orphaned).length
          resetPending := false } ∧
        (∀ m, m ≠ n → t.ports[m] = s.ports[m]) ∧
        s.miss.RemovedFrom (fun p => p.item.agent == n) t.miss ∧
        t.dp = { s.dp with replay := s.dp.replay.filter fun r => r.agent != n } ∧
        (∀ g : GatewayTag, t.sys.table[g] =
          s.sys.table[g].map fun r => if r.agent = n then { r with orphaned := true } else r) ∧
        t.sys.sendq = s.sys.sendq ∧ t.sys.stray = s.sys.stray ∧
        t.resv = s.resv.set n Reservation.cleared ∧
        (t.portState n =
          if s.ports[n].resetLow then .reset
          else if 0 < t.ports[n].flush then .flushing
          else if s.power.hold then .held
          else .opened)

/-! ### The decision point -/

/-- A new agent item step takes the head of the first eligible port in rotation, moves the round-robin pointer past it,
decides the item, and serves the backlog at its end (R29, R31, R86); where no port is eligible the command changes nothing (the
model's reading, notes/assumptions/4.md). -/
def Obligations.NewAgentItemStepServesRotation : Prop :=
  ∀ s : State,
    (∀ n it rest, s.ServesItem n it rest →
      exec .newAgentItemStep s = .next ((s.afterTaking n rest).decideItem n it).serveBacklog ∧
      (∀ a, it.conflict = false → it.body = .access a →
        (s.afterTaking n rest).decideItem n it =
          (s.afterTaking n rest).decideRequest
            { seq := it.seq, ord := it.ord, agent := n, tag := it.tag, acc := a, malformed := it.malformed })) ∧
    (s.NewItemReady → (∀ n, ¬ s.HeadEligible n) → exec .newAgentItemStep s = .next s)

/-- A Signal writes its agent's mailbox, raises AgentSignal (rank 5) and is answered Done in its step (R11, R145).
A tag-conflict item ends with a TagInUse record, carrying the agent's binding at the step and address 0 for a Signal,
and with no response (R10, R116). That the rows SIGNAL and TAG_IN_USE are the whole new agent item step for one kind of item is
the model's reading (notes/assumptions/5.md). -/
def Obligations.SignalsAndConflictItemsEndInTheirStep : Prop :=
  (∀ (s : State) (n : AgentId) (it : Item) (rest : List Item) (code : Byte),
     s.ServesItem n it rest → it.conflict = false → it.body = .signal code →
       ∃ t : State, exec .signal s = .next t ∧ exec .newAgentItemStep s = .next t ∧
         t = State.serveBacklog
           (State.respond
             { s.afterTaking n rest with ev := { s.ev with
                 mail := s.ev.mail.set n
                   { code := code, pending := true,
                     count := if s.ev.mail[n].count < 15 then s.ev.mail[n].count + 1 else s.ev.mail[n].count }
                 requests := s.ev.requests ||| 0x010 } }
             n it.tag (.done []))) ∧
  (∀ (s : State) (n : AgentId) (it : Item) (rest : List Item),
     s.ServesItem n it rest → it.conflict = true →
       ∃ t : State, exec .tagInUse s = .next t ∧ exec .newAgentItemStep s = .next t ∧
         t = State.serveBacklog
           (match it.body with
           | .access a => (s.afterTaking n rest).addFault .tagInUse n s.bindings[n] it.tag (.access a.kind) a.addr
           | .signal _ => (s.afterTaking n rest).addFault .tagInUse n s.bindings[n] it.tag .signal 0))

/-- A replay step takes the head of the replay queue and decides it as a request with the malformed mark clear; the
round-robin pointer stays (R27, R88, R86). -/
def Obligations.ReplayStepDecidesHeadAfresh : Prop :=
  ∀ (s : State) (r : MissItem) (rest : List MissItem),
    s.ReplayReady → s.dp.replay = r :: rest →
      exec .replayStep s = .next (State.serveBacklog
        (State.decideRequest { s with dp := { s.dp with replay := rest } }
          { seq := r.seq, ord := r.ord, agent := r.agent, tag := r.tag, acc := r.acc, malformed := false }))

/-- The priorities of R24: a step is not taken while a step of a kind above it is ready, and a request head waits for a credit
and an Operational device (R24, R30). That such a command changes nothing is the model's reading (notes/assumptions/4.md). -/
def Obligations.HigherStepsHoldBackLowerOnes : Prop :=
  ∀ s : State,
    (s.dp.epoch ≠ none → exec .portResetStep s = .next s) ∧
    (¬ s.NoUrgentStep → ∀ c ∈ .replayStep :: (hostCommandSteps ++ newItemSteps), exec c s = .next s) ∧
    (s.dp.replay ≠ [] → ∀ c ∈ newItemSteps, exec c s = .next s) ∧
    (s.dp.replay ≠ [] → s.GateOpen → ∀ c ∈ hostCommandSteps, exec c s = .next s) ∧
    (s.cmd.fifo ≠ [] → s.cmd.results.length < 4 → ∀ c ∈ newItemSteps, exec c s = .next s) ∧
    (4 ≤ s.cmd.results.length → ∀ c ∈ hostCommandSteps, exec c s = .next s) ∧
    (¬ s.GateOpen → exec .replayStep s = .next s)

/-! ### Requests -/

/-- The decision of a request runs Unbound, then Malformed, then the checks of its context's mode; a failing check other than
a miss ends it with a response Fault and a fault record, Unbound's with context none (R31, R39, R40, R97, R98, R116). That a
ReserveRead or ConditionalWrite that faults Unbound clears its agent's reservation too is the model's reading
(notes/assumptions/9.md). -/
def Obligations.FailedCheckFaultsTheRequest : Prop :=
  ∀ (s : State) (r : Request),
    (s.bindings[r.agent] = none →
      s.decideRequest r =
        (State.respond { s with resv := s.resvAfterFault r } r.agent r.tag (.fault .unbound)).addFault .unbound r.agent none
          r.tag (.access r.acc.kind) r.acc.addr) ∧
    (∀ c, s.bindings[r.agent] = some c → r.malformed = true →
      s.decideRequest r =
        (State.respond { s with resv := s.resvAfterFault r } r.agent r.tag (.fault .malformed)).addFault .malformed r.agent
          (some c) r.tag (.access r.acc.kind) r.acc.addr) ∧
    (∀ c, s.bindings[r.agent] = some c → r.malformed = false →
      (∀ k hit, s.contexts[c].checks s.cache.entries r.acc.kind r.acc.addr = .fault k hit →
        s.decideRequest r =
          (State.respond { s with resv := s.resvAfterFault r } r.agent r.tag (.fault k)).addFault k r.agent
            (some c) r.tag (.access r.acc.kind) r.acc.addr) ∧
      (∀ k, s.contexts[c].checks s.cache.entries r.acc.kind r.acc.addr = .miss k →
        s.decideRequest r = s.missRequest r c k) ∧
      (∀ b a hit, s.contexts[c].checks s.cache.entries r.acc.kind r.acc.addr = .pass b a hit →
        s.decideRequest r = s.passRequest r c b a hit))

/-- Direct mode: the logical address is the physical address in bank 0, and only device space is checked (R43, R44).
Translated mode up to the lookup: an empty slot faults SlotEmpty; a key that no Valid entry holds misses, whether it is
absent or AddressOnly (R38, R40, R41, R59). -/
def Obligations.ChecksUpToTheLookup : Prop :=
  (∀ (c : Context) (entries : Vector Entry 64) (k : AccessKind) (addr : Word), c.mode = .direct →
     c.checks entries k addr =
       if 0xF0000000 ≤ addr.toNat ∧ c.privilege ≠ 0 then .fault .deviceSpace none else .pass 0 addr none) ∧
  (∀ (c : Context) (entries : Vector Entry 64) (k : AccessKind) (addr : Word), c.mode = .translated →
     ∀ slot : Fin 4, slot.val = addr.toNat / 0x40000000 →
       (c.segs[slot] = 0 → c.checks entries k addr = .fault .slotEmpty none) ∧
       (c.segs[slot] ≠ 0 → ∀ vpn : BitVec 18, vpn.toNat = addr.toNat % 0x40000000 / 4096 →
         (∀ i : EntryId, entries[i].state = .valid → entries[i].key ≠ ⟨c.segs[slot], vpn⟩) →
           c.checks entries k addr = .miss ⟨c.segs[slot], vpn⟩))

/-- Translated mode after a hit: PageType, Privilege, PidMismatch, PidWriteDisabled and DeviceSpace in that order, the first
failure being the one reported; a request that passes has the entry's bank and the frame number times 4096 plus the page
offset (R35, R39, R42, R44, R60, R61, R62). -/
def Obligations.EntryChecksInOrder : Prop :=
  ∀ (c : Context) (entries : Vector Entry 64) (k : AccessKind) (addr : Word) (i : EntryId),
    c.mode = .translated →
    ∀ slot : Fin 4, slot.val = addr.toNat / 0x40000000 → c.segs[slot] ≠ 0 →
    ∀ vpn : BitVec 18, vpn.toNat = addr.toNat % 0x40000000 / 4096 →
    entries[i].state = .valid → entries[i].key = ⟨c.segs[slot], vpn⟩ →
    (∀ j : EntryId, entries[j].state = .valid → entries[j].key = ⟨c.segs[slot], vpn⟩ → j = i) →
    ∀ phys : Word, phys.toNat = entries[i].frame.toNat * 4096 + addr.toNat % 4096 →
    (k ∉ entries[i].pageType.kinds → c.checks entries k addr = .fault .pageType (some i)) ∧
    (k ∈ entries[i].pageType.kinds →
      ∀ level : BitVec 2,
        level = (if k = .write ∨ k = .conditionalWrite then entries[i].writeLevel else entries[i].readLevel) →
      (level.toNat < c.privilege.toNat → c.checks entries k addr = .fault .privilege (some i)) ∧
      (c.privilege.toNat ≤ level.toNat →
        (entries[i].pid ≠ 0 → (∀ j : Fin 4, c.pids[j].pid ≠ entries[i].pid) →
          c.checks entries k addr = .fault .pidMismatch (some i)) ∧
        (∀ j : Fin 4, entries[i].pid ≠ 0 → c.pids[j].pid = entries[i].pid →
          (∀ h : Fin 4, h < j → c.pids[h].pid ≠ entries[i].pid) →
          (k = .write ∨ k = .conditionalWrite) → c.pids[j].writeDisable = true →
          c.checks entries k addr = .fault .pidWriteDisabled (some i)) ∧
        ((entries[i].pid = 0 ∨ ∃ j : Fin 4, c.pids[j].pid = entries[i].pid ∧
            (∀ h : Fin 4, h < j → c.pids[h].pid ≠ entries[i].pid) ∧
            ¬ ((k = .write ∨ k = .conditionalWrite) ∧ c.pids[j].writeDisable = true)) →
          c.checks entries k addr =
            if entries[i].bank = 0 ∧ 0xF0000000 ≤ phys.toNat ∧ c.privilege ≠ 0 then .fault .deviceSpace (some i)
            else .pass entries[i].bank phys (some i))))

/-- A miss under the Park policy: ParkFull with 16 records parked; else a record of age 0 at the place of its admission order,
and, for a key without a member, a member whose report enters the queue where it has room, raising MissReport (R78, R81,
R89).
A miss under the Fault policy ends with Fault Miss; it queues a NotParked report where the queue has room and the key has
no member, and is counted as lost elsewhere, up to 255 (R82). -/
def Obligations.MissFollowsItsPolicy : Prop :=
  (∀ (s : State) (r : Request) (c : ContextId) (k : Key),
     s.contexts[c].policy = .park → (s.miss.latch = none → s.miss.queue = []) →
     (16 ≤ s.miss.parked.length →
       s.missRequest r c k =
         (State.respond { s with resv := s.resvAfterFault r } r.agent r.tag (.fault .parkFull)).addFault .parkFull r.agent
           (some c) r.tag (.access r.acc.kind) r.acc.addr) ∧
     (s.miss.parked.length < 16 →
       ∃ before after : List Parked,
         s.miss.parked = before ++ after ∧ (∀ p ∈ before, p.item.ord ≤ r.ord) ∧ (∀ p ∈ after.head?, r.ord < p.item.ord) ∧
         ∀ parked, parked = before ++
             ⟨{ seq := r.seq, ord := r.ord, agent := r.agent, tag := r.tag, ctx := c, acc := r.acc, key := k }, 0⟩ :: after →
           ((∃ x ∈ s.miss.members, x.key = k) →
             s.missRequest r c k = { s with miss := { s.miss with parked := parked } }) ∧
           ((∀ x ∈ s.miss.members, x.key ≠ k) → s.miss.queue.length < 8 →
             s.missRequest r c k =
               State.reportEnters
                 { s with miss := { s.miss with
                     parked := parked
                     members := s.miss.members ++ [⟨k, s.miss.enteredState⟩] } }
                 { key := k, agent := r.agent, ctx := c, kind := r.acc.kind, notParked := false }) ∧
           ((∀ x ∈ s.miss.members, x.key ≠ k) → 8 ≤ s.miss.queue.length →
             s.missRequest r c k = { s with miss := { s.miss with
               parked := parked
               members := s.miss.members ++ [⟨k, .unreported⟩] } }))) ∧
  (∀ (s : State) (r : Request) (c : ContextId) (k : Key),
     s.contexts[c].policy = .fault → (s.miss.latch = none → s.miss.queue = []) →
     ∀ u, u = (State.respond { s with resv := s.resvAfterFault r } r.agent r.tag (.fault .miss)).addFault .miss r.agent
         (some c) r.tag (.access r.acc.kind) r.acc.addr →
       (s.miss.queue.length < 8 ∧ (∀ x ∈ s.miss.members, x.key ≠ k) →
         s.missRequest r c k =
           u.reportEnters { key := k, agent := r.agent, ctx := c, kind := r.acc.kind, notParked := true }) ∧
       (¬ (s.miss.queue.length < 8 ∧ ∀ x ∈ s.miss.members, x.key ≠ k) →
         s.missRequest r c k =
           { u with miss := { s.miss with lost := if s.miss.lost < 255 then s.miss.lost + 1 else s.miss.lost } }))

/-- An issued Read, Fetch or ReserveRead takes the lowest free gateway tag, writes its outstanding record, places its
downstream request at the queue's tail and sets Referenced; a ReserveRead replaces its agent's reservation, age 0 (R30, R63,
R97, R107, R108). -/
def Obligations.ReadTypeRequestIsIssued : Prop :=
  ∀ (s : State) (r : Request) (c : ContextId) (bank : BitVec 4) (addr : Word) (hit : Option EntryId) (g : GatewayTag),
    s.LowestFree g → (r.acc.kind = .read ∨ r.acc.kind = .fetch ∨ r.acc.kind = .reserveRead) →
    ∃ t : State, s.passRequest r c bank addr hit = t ∧
      t = { s with sys := t.sys, cache := t.cache, resv := t.resv } ∧
      t.sys = { s.sys with
        table := s.sys.table.set g (some { agent := r.agent, tag := r.tag, kind := r.acc.kind, ctx := c, addr := r.acc.addr,
                                           len := r.acc.len, orphaned := false })
        sendq := s.sys.sendq ++ [{ gtag := g, kind := if r.acc.kind = .fetch then .fetch else .read, bank := bank,
                                   addr := addr, len := r.acc.len, data := [] }] } ∧
      (match hit with
        | none => t.cache = s.cache
        | some i => t.cache = { s.cache with
            entries := s.cache.entries.set i { s.cache.entries[i] with referenced := true } }) ∧
      (r.acc.kind ≠ .reserveRead → t.resv = s.resv) ∧
      (r.acc.kind = .reserveRead → ∀ line : Word, line.toNat = addr.toNat - addr.toNat % 32 →
        t.resv = s.resv.set r.agent { valid := true, bank := bank, line := line, age := 0 })

/-- An issued Write goes downstream with its data, sets Referenced and Modified, and clears every other agent's reservation
on a line that holds one of its bytes, and no other; its agent's own stays (R63, R96, R99, R107, R108). -/
def Obligations.WriteIsIssuedAndClearsOthers : Prop :=
  ∀ (s : State) (r : Request) (c : ContextId) (bank : BitVec 4) (addr : Word) (hit : Option EntryId) (g : GatewayTag),
    s.LowestFree g → r.acc.kind = .write → 1 ≤ r.acc.len.toNat →
    ∃ t : State, s.passRequest r c bank addr hit = t ∧
      t = { s with sys := t.sys, cache := t.cache, resv := t.resv } ∧
      t.sys = { s.sys with
        table := s.sys.table.set g (some { agent := r.agent, tag := r.tag, kind := .write, ctx := c, addr := r.acc.addr,
                                           len := r.acc.len, orphaned := false })
        sendq := s.sys.sendq ++ [{ gtag := g, kind := .write, bank := bank, addr := addr, len := r.acc.len,
                                   data := r.acc.data }] } ∧
      (match hit with
        | none => t.cache = s.cache
        | some i => t.cache = { s.cache with
            entries := s.cache.entries.set i { s.cache.entries[i] with referenced := true, modified := true } }) ∧
      t.resv[r.agent] = s.resv[r.agent] ∧
      ∀ n : AgentId, n ≠ r.agent →
        (s.resv[n].valid = true ∧ s.resv[n].bank = bank ∧ (∃ i < r.acc.len.toNat,
            s.resv[n].line.toNat ≤ addr.toNat + i ∧ addr.toNat + i < s.resv[n].line.toNat + 32) →
          t.resv[n] = Reservation.cleared) ∧
        (¬ (s.resv[n].valid = true ∧ s.resv[n].bank = bank ∧ ∃ i < r.acc.len.toNat,
            s.resv[n].line.toNat ≤ addr.toNat + i ∧ addr.toNat + i < s.resv[n].line.toNat + 32) →
          t.resv[n] = s.resv[n])

/-- A ConditionalWrite that passes its checks: with its agent's reservation valid on the request's line it is issued as a
Write and leaves no reservation on the line; else it ends as CondFail, with no fault record and no credit taken. Its own
reservation is cleared either way (R63, R98, R99). -/
def Obligations.ConditionalWriteTestsReservation : Prop :=
  ∀ (s : State) (r : Request) (c : ContextId) (bank : BitVec 4) (addr : Word) (hit : Option EntryId) (g : GatewayTag),
    s.LowestFree g → r.acc.kind = .conditionalWrite → 1 ≤ r.acc.len.toNat →
    ((s.resv[r.agent].valid = true ∧ s.resv[r.agent].bank = bank ∧
        s.resv[r.agent].line.toNat = addr.toNat - addr.toNat % 32) →
      ∃ t : State, s.passRequest r c bank addr hit = t ∧
        t = { s with sys := t.sys, cache := t.cache, resv := t.resv } ∧
        t.sys = { s.sys with
          table := s.sys.table.set g (some { agent := r.agent, tag := r.tag, kind := .conditionalWrite, ctx := c,
                                             addr := r.acc.addr, len := r.acc.len, orphaned := false })
          sendq := s.sys.sendq ++ [{ gtag := g, kind := .write, bank := bank, addr := addr, len := r.acc.len,
                                     data := r.acc.data }] } ∧
        (match hit with
          | none => t.cache = s.cache
          | some i => t.cache = { s.cache with
              entries := s.cache.entries.set i { s.cache.entries[i] with referenced := true, modified := true } }) ∧
        t.resv[r.agent] = Reservation.cleared ∧
        ∀ n : AgentId, n ≠ r.agent →
          (s.resv[n].valid = true ∧ s.resv[n].bank = bank ∧ (∃ i < r.acc.len.toNat,
              s.resv[n].line.toNat ≤ addr.toNat + i ∧ addr.toNat + i < s.resv[n].line.toNat + 32) →
            t.resv[n] = Reservation.cleared) ∧
          (¬ (s.resv[n].valid = true ∧ s.resv[n].bank = bank ∧ ∃ i < r.acc.len.toNat,
              s.resv[n].line.toNat ≤ addr.toNat + i ∧ addr.toNat + i < s.resv[n].line.toNat + 32) →
            t.resv[n] = s.resv[n])) ∧
    (¬ (s.resv[r.agent].valid = true ∧ s.resv[r.agent].bank = bank ∧
        s.resv[r.agent].line.toNat = addr.toNat - addr.toNat % 32) →
      s.passRequest r c bank addr hit =
        State.respond
          { s with
            resv := s.resv.set r.agent Reservation.cleared
            cache := match hit with
              | none => s.cache
              | some i => { s.cache with
                  entries := s.cache.entries.set i { s.cache.entries[i] with referenced := true } } }
          r.agent r.tag .condFail)

/-! ### System port and fault log -/

/-- The interconnect takes the requests of the send queue in order (R108). With none waiting the command changes nothing (the
model's reading, notes/assumptions/4.md). -/
def Obligations.SendQueueIsFirstInFirstOut : Prop :=
  ∀ s : State,
    (∀ q rest, s.sys.sendq = q :: rest →
      exec .downstreamRequest s =
        .next { s with sys := { s.sys with sendq := rest }, out := s.out ++ [.downstream q] }) ∧
    (s.sys.sendq = [] → exec .downstreamRequest s = .next s)

/-- How a request finishes: its response is sent, or discarded while its port is in Reset, and its tag leaves the set in
either case (R12).
A completion for a record that is not orphaned: OK gives Done, with exactly the record's length in read data for a
read-type request and 0x00 for the bytes the response did not carry; Error gives Fault MemoryError and its record. The
gateway tag is freed (R109, R110, R111). -/
def Obligations.CompletionFinishesTheRequest : Prop :=
  (∀ (s : State) (n : AgentId) (t : AgentTag) (o : Outcome),
     s.respond n t o = { s with
       out := if s.portState n = .reset then s.out else s.out ++ [.response n t o]
       ports := s.ports.set n { s.ports[n] with tags := s.ports[n].tags &&& ~~~(1#4 <<< t.val) } }) ∧
  (∀ (s : State) (g : GatewayTag) (r : OutRecord) (data : List Byte), s.Sent g r → r.orphaned = false →
     ∀ freed, freed = { s.sys with table := s.sys.table.set g none } →
     exec (.downstreamResponse g .ok data) s =
       .next { s.respond r.agent r.tag (.done
           (if r.kind = .read ∨ r.kind = .fetch ∨ r.kind = .reserveRead then
             (List.range r.len.toNat).map fun i => data.getD i 0
           else [])) with sys := freed } ∧
     exec (.downstreamResponse g .error data) s =
       .next { (s.respond r.agent r.tag (.fault .memoryError)).addFault .memoryError r.agent (some r.ctx) r.tag
           (.access r.kind) r.addr with sys := freed })

/-- A response of either status for an orphaned record is discarded: the gateway tag is freed and the flush count of its
agent's port goes down by one (R17, R112).
A response for a free gateway tag, or for one whose request still waits in the send queue, only sets StrayResponse
(R109, R113). -/
def Obligations.OrphanedAndStrayResponsesEndUnseen : Prop :=
  (∀ (s : State) (g : GatewayTag) (r : OutRecord) (status : MemStatus) (data : List Byte), s.Sent g r → r.orphaned = true →
     exec (.downstreamResponse g status data) s = .next { s with
       sys := { s.sys with table := s.sys.table.set g none }
       ports := s.ports.set r.agent { s.ports[r.agent] with flush := s.ports[r.agent].flush - 1 } }) ∧
  (∀ (s : State) (g : GatewayTag) (status : MemStatus) (data : List Byte),
     (s.sys.table[g] = none ∨ ∃ q ∈ s.sys.sendq, q.gtag = g) →
       exec (.downstreamResponse g status data) s = .next { s with sys := { s.sys with stray := true } })

/-- Adding a fault record: it takes the sequence number and the epoch stamp; with fewer than 16 records it is kept and
FaultLogged (rank 4) raised, with 16 it is dropped, counted up to 255, and ServiceError (rank 1) raised (R116, R117). -/
def Obligations.FaultRecordIsKeptOrCounted : Prop :=
  ∀ (s : State) (k : FaultKind) (n : AgentId) (c : Option ContextId) (t : AgentTag) (q : RequestKind) (addr : Word),
    (s.log.records.length < 16 →
      s.addFault k n c t q addr = { s with
        log := { s.log with
          records := s.log.records ++ [{ seq := s.log.seq, kind := k, agent := n, ctx := c, tag := t, req := q, addr := addr,
                                         stamp := s.epoch.count }]
          seq := s.log.seq + 1 }
        ev := { s.ev with requests := s.ev.requests ||| 0x008 } }) ∧
    (16 ≤ s.log.records.length →
      s.addFault k n c t q addr = { s with
        log := { s.log with
          seq := s.log.seq + 1
          lost := if s.log.lost < 255 then s.log.lost + 1 else s.log.lost }
        ev := { s.ev with requests := s.ev.requests ||| 0x001 } })

/-! ### Host commands: contexts and bindings -/

/-- BindAgent binds an unbound agent; it answers AlreadyBound with the bound context, or BadArgument for an agent above 7 or
a context above 15 (R47, R48).
UnbindAgent removes the binding and the reservation of an agent with no tag in use; with a tag in use it answers
AgentBusy and their number (R47, R49).
ClearReservation clears one agent's reservation and answers whether it was valid (R102). -/
def Obligations.AgentCommandsBindUnbindAndClear : Prop :=
  (∀ (s : State) (a : Vector Word 4), s.CommandAtHead 8 a →
     (7 < a[0].toNat ∨ 15 < a[1].toNat → exec .bindAgent s = .next (s.afterCommand 8 .badArgument 0 0)) ∧
     (∀ (n : AgentId) (c : ContextId), a[0].toNat = n.val → a[1].toNat = c.val →
       (∀ b, s.bindings[n] = some b →
         exec .bindAgent s = .next (s.afterCommand 8 .alreadyBound (BitVec.ofNat 32 b.val) 0)) ∧
       (s.bindings[n] = none →
         exec .bindAgent s =
           .next (State.afterCommand { s with bindings := s.bindings.set n (some c) } 8 .ok 0 0)))) ∧
  (∀ (s : State) (a : Vector Word 4), s.CommandAtHead 9 a →
     (7 < a[0].toNat → exec .unbindAgent s = .next (s.afterCommand 9 .badArgument 0 0)) ∧
     (∀ n : AgentId, a[0].toNat = n.val →
       ((∃ t : AgentTag, s.ports[n].tags.getLsbD t.val = true) →
         exec .unbindAgent s = .next (s.afterCommand 9 .agentBusy
           (BitVec.ofNat 32 ((List.finRange 4).filter fun t => s.ports[n].tags.getLsbD t.val).length) 0)) ∧
       ((∀ t : AgentTag, s.ports[n].tags.getLsbD t.val = false) →
         exec .unbindAgent s =
           .next (State.afterCommand
             { s with bindings := s.bindings.set n none, resv := s.resv.set n Reservation.cleared } 9 .ok
             (if s.bindings[n] = none then 0 else 1) 0)))) ∧
  (∀ (s : State) (a : Vector Word 4), s.CommandAtHead 15 a →
     (7 < a[0].toNat → exec .clearReservation s = .next (s.afterCommand 15 .badArgument 0 0)) ∧
     (∀ n : AgentId, a[0].toNat = n.val →
       exec .clearReservation s =
         .next (State.afterCommand { s with resv := s.resv.set n Reservation.cleared } 15 .ok
           (if s.resv[n].valid then 1 else 0) 0)))

/-- SuspendContext sets and ResumeContext clears the Suspended flag, answering its value before (R47, R50).
WriteContext writes one field of one context, in the form of R51's table, and answers its value before; a context above
15, a field above 10 or a value above the field's limit is BadArgument (R47, R51).
ReadContext answers one field, 0 to 12, in the form of R51's table and changes nothing (R47, R53). -/
def Obligations.ContextCommandsChangeOneField : Prop :=
  (∀ (s : State) (a : Vector Word 4),
     (s.CommandAtHead 12 a →
       (15 < a[0].toNat → exec .suspendContext s = .next (s.afterCommand 12 .badArgument 0 0)) ∧
       (∀ c : ContextId, a[0].toNat = c.val →
         exec .suspendContext s = .next (State.afterCommand
           { s with contexts := s.contexts.set c { s.contexts[c] with suspended := true } } 12 .ok
           (if s.contexts[c].suspended then 1 else 0) 0))) ∧
     (s.CommandAtHead 13 a →
       (15 < a[0].toNat → exec .resumeContext s = .next (s.afterCommand 13 .badArgument 0 0)) ∧
       (∀ c : ContextId, a[0].toNat = c.val →
         exec .resumeContext s = .next (State.afterCommand
           { s with contexts := s.contexts.set c { s.contexts[c] with suspended := false } } 13 .ok
           (if s.contexts[c].suspended then 1 else 0) 0)))) ∧
  (∀ (s : State) (a : Vector Word 4), s.CommandAtHead 10 a →
     (15 < a[0].toNat ∨ 10 < a[1].toNat ∨ fieldLimit a[1].toNat < a[2].toNat →
       exec .writeContext s = .next (s.afterCommand 10 .badArgument 0 0)) ∧
     (∀ c : ContextId, a[0].toNat = c.val → a[1].toNat ≤ 10 → a[2].toNat ≤ fieldLimit a[1].toNat →
       ∃ x : Context, x.fieldValue a[1].toNat = a[2].toNat ∧
         (∀ f, f ≤ 11 → f ≠ a[1].toNat → x.fieldValue f = s.contexts[c].fieldValue f) ∧
         exec .writeContext s =
           .next (State.afterCommand { s with contexts := s.contexts.set c x } 10 .ok
             (BitVec.ofNat 32 (s.contexts[c].fieldValue a[1].toNat)) 0))) ∧
  (∀ (s : State) (a : Vector Word 4), s.CommandAtHead 11 a →
     (15 < a[0].toNat ∨ 12 < a[1].toNat → exec .readContext s = .next (s.afterCommand 11 .badArgument 0 0)) ∧
     (∀ c : ContextId, a[0].toNat = c.val → a[1].toNat ≤ 12 →
       exec .readContext s = .next (s.afterCommand 11 .ok (BitVec.ofNat 32 (s.fieldValue c a[1].toNat)) 0)))

/-! ### Host commands: the translation cache -/

/-- InsertAddress re-uses the key's entry, else takes the lowest Empty entry, else the first unpinned entry from the
replacement pointer on, else answers NoFreeEntry; a frame it gives up loses its reservations (R65, R66, R67, R68). -/
def Obligations.InsertAddressChoosesEntry : Prop :=
  ∀ (s : State) (a : Vector Word 4), s.CommandAtHead 1 a →
    (¬ (KeyInRange a[0] a[1] ∧ a[2].toNat ≤ 0xFFFFF ∧ a[3].toNat % 65536 ≤ 15 ∧ a[3].toNat / 65536 ≤ 1) →
      exec .insertAddress s = .next (s.afterCommand 1 .badArgument 0 0)) ∧
    (KeyInRange a[0] a[1] ∧ a[2].toNat ≤ 0xFFFFF ∧ a[3].toNat % 65536 ≤ 15 ∧ a[3].toNat / 65536 ≤ 1 →
      ∀ e : Entry, e = { state := .addressOnly, key := keyNamed a[0] a[1], bank := BitVec.ofNat 4 (a[3].toNat % 65536),
                         frame := BitVec.ofNat 20 a[2].toNat, pageType := .dataRead, readLevel := 0, writeLevel := 0,
                         pid := 0, pinned := decide (a[3].toNat / 65536 = 1), referenced := false, modified := false } →
      (∀ i, s.KeyAt e.key i →
        ∃ v, s.FramesCleared (fun b f => b = s.cache.entries[i].bank ∧ f = s.cache.entries[i].frame) v ∧
          exec .insertAddress s = .next (State.afterCommand
            { s with resv := v, cache := { s.cache with entries := s.cache.entries.set i e } } 1 .ok
            (BitVec.ofNat 32 i.val) 0)) ∧
      (s.KeyAbsent e.key →
        (∀ i : EntryId, s.cache.entries[i].state = .empty → (∀ j : EntryId, j < i → s.cache.entries[j].state ≠ .empty) →
          exec .insertAddress s = .next (State.afterCommand
            { s with cache := { s.cache with entries := s.cache.entries.set i e } } 1 .ok (BitVec.ofNat 32 i.val) 1)) ∧
        ((∀ j : EntryId, s.cache.entries[j].state ≠ .empty) →
          (∀ i : EntryId, s.cache.entries[i].pinned = false →
            (∀ k : EntryId, k < i - s.cache.pointer → s.cache.entries[s.cache.pointer + k].pinned = true) →
            ∃ v, s.FramesCleared (fun b f => b = s.cache.entries[i].bank ∧ f = s.cache.entries[i].frame) v ∧
              exec .insertAddress s = .next (State.afterCommand
                { s with resv := v, cache := { entries := s.cache.entries.set i e, pointer := i + 1 } } 1 .ok
                (BitVec.ofNat 32 i.val) 2)) ∧
          ((∀ i : EntryId, s.cache.entries[i].pinned = true) →
            exec .insertAddress s = .next (s.afterCommand 1 .noFreeEntry 0 0)))))

/-- InsertRights writes the rights of the key's entry, makes it Valid, and in the same step releases every record parked under
the key to the tail of the replay queue, in parked-list order (R65, R69, R85, R87). -/
def Obligations.InsertRightsMakesValidAndReleases : Prop :=
  ∀ (s : State) (a : Vector Word 4), s.CommandAtHead 2 a →
    (¬ (KeyInRange a[0] a[1] ∧ a[2].toNat % 65536 ≤ 3 ∧ a[3].toNat % 65536 ≤ 3 ∧ a[3].toNat / 65536 ≤ 3) →
      exec .insertRights s = .next (s.afterCommand 2 .badArgument 0 0)) ∧
    (KeyInRange a[0] a[1] ∧ a[2].toNat % 65536 ≤ 3 ∧ a[3].toNat % 65536 ≤ 3 ∧ a[3].toNat / 65536 ≤ 3 →
      (s.KeyAbsent (keyNamed a[0] a[1]) → exec .insertRights s = .next (s.afterCommand 2 .notFound 0 0)) ∧
      (∀ i, s.KeyAt (keyNamed a[0] a[1]) i → ∀ pt : PageType, pt.code = a[2].toNat % 65536 →
        ∃ m, s.miss.RemovedFrom (fun p => p.item.key == keyNamed a[0] a[1]) m ∧
          exec .insertRights s = .next (State.afterCommand
            { s with
              cache := { s.cache with entries := s.cache.entries.set i { s.cache.entries[i] with
                state := .valid
                pageType := pt
                readLevel := BitVec.ofNat 2 (a[3].toNat % 65536)
                writeLevel := BitVec.ofNat 2 (a[3].toNat / 65536)
                pid := BitVec.ofNat 16 (a[2].toNat / 65536) } }
              miss := m
              dp := { s.dp with replay := s.dp.replay ++
                (s.miss.parked.filter fun p => p.item.key == keyNamed a[0] a[1]).map (·.item) } } 2 .ok
            (BitVec.ofNat 32 (s.miss.parked.filter fun p => p.item.key == keyNamed a[0] a[1]).length)
            (BitVec.ofNat 32 i.val))))

/-- PurgeEntry empties the key's entry, clears its frame's reservations and answers its index and its flags before; the miss
parking block is not touched (R65, R66, R71).
PurgeSegment empties every non-Empty entry of a segment, and PurgeAll every non-Empty entry, or every unpinned one under
flag 0; each clears the reservations of the frames given up and answers how many entries it emptied and how many of them were
modified; the replacement pointer stays (R65, R66, R72, R73). -/
def Obligations.PurgesEmptyTheirEntries : Prop :=
  (∀ (s : State) (a : Vector Word 4), s.CommandAtHead 3 a →
     (¬ KeyInRange a[0] a[1] → exec .purgeEntry s = .next (s.afterCommand 3 .badArgument 0 0)) ∧
     (KeyInRange a[0] a[1] → s.KeyAbsent (keyNamed a[0] a[1]) →
       exec .purgeEntry s = .next (s.afterCommand 3 .notFound 0 0)) ∧
     (KeyInRange a[0] a[1] → ∀ i, s.KeyAt (keyNamed a[0] a[1]) i →
       ∃ v, s.FramesCleared (fun b f => b = s.cache.entries[i].bank ∧ f = s.cache.entries[i].frame) v ∧
         exec .purgeEntry s = .next (State.afterCommand
           { s with resv := v, cache := { s.cache with entries := s.cache.entries.set i Entry.cleared } } 3 .ok
           (BitVec.ofNat 32 i.val)
           (BitVec.ofNat 32
             ((if s.cache.entries[i].pinned then 1 else 0) + (if s.cache.entries[i].referenced then 2 else 0) +
               (if s.cache.entries[i].modified then 4 else 0) +
               (if s.cache.entries[i].state = .valid then 8 else 0)))))) ∧
  (∀ (s : State) (a : Vector Word 4),
     (s.CommandAtHead 4 a →
       (a[0].toNat = 0 ∨ 0xFFFF < a[0].toNat → exec .purgeSegment s = .next (s.afterCommand 4 .badArgument 0 0))) ∧
     (s.CommandAtHead 5 a → 1 < a[0].toNat → exec .purgeAll s = .next (s.afterCommand 5 .badArgument 0 0)) ∧
     (∀ (c : Instr) (k : Byte) (p : Entry → Bool),
       (c = .purgeSegment ∧ k = 4 ∧ 1 ≤ a[0].toNat ∧ a[0].toNat ≤ 0xFFFF ∧
           p = (fun e => e.state != .empty && e.key.seg.toNat == a[0].toNat)) ∨
         (c = .purgeAll ∧ k = 5 ∧ a[0].toNat ≤ 1 ∧
           p = (fun e => e.state != .empty && (a[0].toNat == 1 || !e.pinned))) →
       s.CommandAtHead k a →
       ∃ (v : Vector Reservation 8) (entries : Vector Entry 64),
         s.FramesCleared (fun b f => ∃ i : EntryId, p s.cache.entries[i] = true ∧ b = s.cache.entries[i].bank ∧
           f = s.cache.entries[i].frame) v ∧
         (∀ i : EntryId, entries[i] = if p s.cache.entries[i] then Entry.cleared else s.cache.entries[i]) ∧
         exec c s = .next (State.afterCommand
           { s with resv := v, cache := { s.cache with entries := entries } } k .ok
           (BitVec.ofNat 32 ((List.finRange 64).filter fun i => p s.cache.entries[i]).length)
           (BitVec.ofNat 32
             ((List.finRange 64).filter fun i => p s.cache.entries[i] && s.cache.entries[i].modified).length))))

/-- ReadEntry answers one part of an entry in the layout of R74 and changes nothing (R65, R74). -/
def Obligations.ReadEntryShowsLayout : Prop :=
  ∀ (s : State) (a : Vector Word 4), s.CommandAtHead 6 a →
    (63 < a[0].toNat ∨ 1 < a[1].toNat → exec .readEntry s = .next (s.afterCommand 6 .badArgument 0 0)) ∧
    (∀ i : EntryId, a[0].toNat = i.val → ∀ e, e = s.cache.entries[i] →
      (a[1].toNat = 0 →
        exec .readEntry s = .next (s.afterCommand 6 .ok
          (BitVec.ofNat 32 (e.key.seg.toNat * 65536 +
            (match e.state with | .empty => 0 | .addressOnly => 256 | .valid => 512) +
            (if e.modified then 4 else 0) + (if e.referenced then 2 else 0) + (if e.pinned then 1 else 0)))
          (BitVec.ofNat 32 e.key.vpn.toNat))) ∧
      (a[1].toNat = 1 →
        exec .readEntry s = .next (s.afterCommand 6 .ok
          (BitVec.ofNat 32 (e.bank.toNat * 0x1000000 + e.frame.toNat))
          (BitVec.ofNat 32 (e.pid.toNat * 65536 +
            (match e.pageType with | .dataRead => 0 | .dataWrite => 256 | .fetch => 512 | .fetchOnly => 768) +
            e.readLevel.toNat * 16 + e.writeLevel.toNat)))))

/-- Probe answers how the checks of R39 after Malformed would end for the named context, a fault by its number in R115, and
changes nothing (R65, R75, R115). -/
def Obligations.ProbeReportsChecks : Prop :=
  ∀ (s : State) (a : Vector Word 4), s.CommandAtHead 7 a →
    (15 < a[0].toNat ∨ 4 < a[2].toNat → exec .probe s = .next (s.afterCommand 7 .badArgument 0 0)) ∧
    (∀ (c : ContextId) (k : AccessKind), a[0].toNat = c.val →
      (match k with | .read => 0 | .write => 1 | .fetch => 2 | .reserveRead => 3 | .conditionalWrite => 4) = a[2].toNat →
      (∀ b phys hit, s.contexts[c].checks s.cache.entries k a[1] = .pass b phys hit →
        exec .probe s = .next (s.afterCommand 7 .ok phys (BitVec.ofNat 32 b.toNat))) ∧
      (∀ key, s.contexts[c].checks s.cache.entries k a[1] = .miss key →
        exec .probe s = .next (s.afterCommand 7 .faulted 6 0)) ∧
      (∀ f, s.contexts[c].checks s.cache.entries k a[1] = .fault f none →
        exec .probe s = .next (s.afterCommand 7 .faulted (BitVec.ofNat 32 (faultNumber f)) 0)) ∧
      (∀ f i, s.contexts[c].checks s.cache.entries k a[1] = .fault f (some i) →
        exec .probe s = .next (s.afterCommand 7 .faulted (BitVec.ofNat 32 (faultNumber f)) (BitVec.ofNat 32 (i.val + 1)))))

/-! ### Host commands: parked requests, reservations, unknown kinds -/

/-- AbortParked finishes every request parked under a key with HostAbort, response and record, in parked-list order (R85,
R91). -/
def Obligations.AbortParkedFinishesKey : Prop :=
  ∀ (s : State) (a : Vector Word 4), s.CommandAtHead 14 a →
    (¬ KeyInRange a[0] a[1] → exec .abortParked s = .next (s.afterCommand 14 .badArgument 0 0)) ∧
    (KeyInRange a[0] a[1] → (∀ p ∈ s.miss.parked, p.item.key ≠ keyNamed a[0] a[1]) →
      exec .abortParked s = .next (s.afterCommand 14 .notFound 0 0)) ∧
    (KeyInRange a[0] a[1] → ∀ p ∈ s.miss.parked, p.item.key = keyNamed a[0] a[1] →
      ∃ m, s.miss.RemovedFrom (fun q => q.item.key == keyNamed a[0] a[1]) m ∧
        ∀ gone, gone = s.miss.parked.filter (fun q => q.item.key == keyNamed a[0] a[1]) →
        exec .abortParked s = .next (State.afterCommand
          (gone.foldl (fun t q =>
              (t.respond q.item.agent q.item.tag (.fault .hostAbort)).addFault .hostAbort q.item.agent (some q.item.ctx)
                q.item.tag (.access q.item.acc.kind) q.item.acc.addr)
            { s with miss := m })
          14 .ok (BitVec.ofNat 32 gone.length) 0))

/-- A kind that names no command is answered with BadCommand and changes nothing else; a row executes only a head of its own
kind (R128, R131; that it changes nothing otherwise is the model's reading, notes/assumptions/4.md). -/
def Obligations.BadCommandIsAnswered : Prop :=
  ∀ (s : State) (k : Byte) (a : Vector Word 4), s.CommandAtHead k a →
    (k = 0 ∨ 18 ≤ k.toNat → exec .badCommand s = .next (s.afterCommand k .badCommand 0 0)) ∧
    (∀ j : Fin 17, k.toNat ≠ j.val + 1 → exec hostCommandSteps[j.castSucc] s = .next s) ∧
    (k ≠ 0 → k.toNat < 18 → exec .badCommand s = .next s)

/-! ### The command block and the host's pops -/

/-- A write of CmdIssue captures the kind and the four arguments, or with 4 entries waiting sets CmdDropped and raises
ServiceError (rank 1); either wakes a device in Standby. A write of CmdStatus with bit 8 set clears CmdDropped, unless a drop
of the same moment sets it (R122, R127, R164).
ResultPop and FaultPop remove the oldest record, whatever value is written, and are ignored on an empty queue (R118,
R129). -/
def Obligations.CommandAndPopWrites : Prop :=
  (∀ (s : State) (v : Word),
     (s.cmd.fifo.length < 4 →
       exec (.cmdIssue v) s = .next { s with
         cmd := { s.cmd with fifo := s.cmd.fifo ++ [{ kind := BitVec.ofNat 8 (v.toNat % 256), args := s.cmd.args }] }
         power := s.power.woken
         out := s.out ++ [.writeDone] }) ∧
     (4 ≤ s.cmd.fifo.length →
       exec (.cmdIssue v) s = .next { s with
         cmd := { s.cmd with dropped := true }
         ev := { s.ev with requests := s.ev.requests ||| 0x001 }
         power := s.power.woken
         out := s.out ++ [.writeDone] }) ∧
     (∀ setNow, exec (.cmdDroppedClear v setNow) s = .next { s with
       cmd := { s.cmd with dropped := if setNow then true else if v.getLsbD 8 then false else s.cmd.dropped }
       out := s.out ++ [.writeDone] })) ∧
  (∀ (s : State) (v : Word),
     (∀ r rest, s.cmd.results = r :: rest → exec (.resultPop v) s =
       .next { s with cmd := { s.cmd with results := rest }, out := s.out ++ [.writeDone] }) ∧
     (s.cmd.results = [] → exec (.resultPop v) s = .next { s with out := s.out ++ [.writeDone] }) ∧
     (∀ r rest, s.log.records = r :: rest → exec (.faultPop v) s =
       .next { s with log := { s.log with records := rest }, out := s.out ++ [.writeDone] }) ∧
     (s.log.records = [] → exec (.faultPop v) s = .next { s with out := s.out ++ [.writeDone] }))

/-- MissPop empties the latch, makes the member of a report that is neither Resolved nor NotParked Consumed, moves the head of
the report queue into the latch, its member becoming Presented, and serves the backlog; with an empty latch it is ignored
(R80, R84). -/
def Obligations.MissPopPresentsNextReport : Prop :=
  ∀ (s : State) (v : Word),
    (s.miss.latch = none → exec (.missPop v) s = .next { s with out := s.out ++ [.writeDone] }) ∧
    (∀ l, s.miss.latch = some l →
      ∀ members, members = (if l.resolved = false ∧ l.report.notParked = false then
          s.miss.members.map fun x => if x.key = l.report.key then { x with state := .consumed } else x
        else s.miss.members) →
      (s.miss.queue = [] → exec (.missPop v) s = .next { State.serveBacklog
          { s with miss := { s.miss with latch := none, members := members } } with out := s.out ++ [.writeDone] }) ∧
      (∀ r rest, s.miss.queue = r :: rest → exec (.missPop v) s = .next { State.serveBacklog
          { s with miss := { s.miss with
              latch := some ⟨r, false⟩
              queue := rest
              members := if r.notParked then members
                else members.map fun x => if x.key = r.key then { x with state := .presented } else x } }
          with out := s.out ++ [.writeDone] }))

/-- The backlog: while the queue has room, the Unreported member whose earliest parked record stands first is reported from
that record; nothing happens with a full queue or no Unreported member (R83, R86).
The service is made at the end of every step other than a port reset step, and `beforeService` is the state it finds there:
that of the row of the step that is ready (R22, R24, R86). BACKLOG_SERVICE is that step where its end reports a member, and
changes nothing elsewhere (the model's reading, notes/assumptions/7.md). -/
def Obligations.BacklogIsServedOldestFirst : Prop :=
  (∀ s : State, (s.miss.latch = none → s.miss.queue = []) →
    (8 ≤ s.miss.queue.length ∨ (∀ p ∈ s.miss.parked, ¬ s.miss.UnreportedAt p) → s.serveBacklog = s) ∧
    (∀ p before after, s.miss.queue.length < 8 → s.miss.parked = before ++ p :: after → s.miss.UnreportedAt p →
      (∀ q ∈ before, ¬ s.miss.UnreportedAt q) → s.serveBacklog = (s.reportedFor p).serveBacklog)) ∧
  (∀ s : State,
    (∀ u, s.beforeService = some u →
      (u.miss.queue.length < 8 ∧ (∃ p ∈ u.miss.parked, u.miss.UnreportedAt p) →
        exec .backlogService s = .next u.serveBacklog) ∧
      (8 ≤ u.miss.queue.length ∨ (∀ p ∈ u.miss.parked, ¬ u.miss.UnreportedAt p) → exec .backlogService s = .next s)) ∧
    (s.beforeService = none → exec .backlogService s = .next s) ∧
    (∀ mark, s.dp.epoch = some mark →
      (s.power.resetArmed = true ∧ mark = false ∧ (∀ g : GatewayTag, s.sys.table[g] = none) → s.beforeService = none) ∧
      (¬ (s.power.resetArmed = true ∧ mark = false ∧ ∀ g : GatewayTag, s.sys.table[g] = none) →
        ∃ u, s.beforeService = some u ∧ exec .epochStep s = .next u.serveBacklog)) ∧
    (s.dp.epoch = none → (∃ n : AgentId, s.ports[n].resetPending = true) → s.beforeService = none) ∧
    (s.ReplayReady → s.dp.replay ≠ [] → ∃ u, s.beforeService = some u ∧ exec .replayStep s = .next u.serveBacklog) ∧
    (∀ k a, s.CommandAtHead k a → ∃ u, s.beforeService = some u ∧
      (∀ j : Fin 17, k.toNat = j.val + 1 → exec hostCommandSteps[j.castSucc] s = .next u.serveBacklog) ∧
      (k = 0 ∨ 18 ≤ k.toNat → exec .badCommand s = .next u.serveBacklog)) ∧
    (s.NewItemReady → (∃ n, s.HeadEligible n) →
      ∃ u, s.beforeService = some u ∧ exec .newAgentItemStep s = .next u.serveBacklog) ∧
    (s.NoUrgentStep → (s.dp.replay = [] ∨ ¬ s.GateOpen) → (s.cmd.fifo = [] ∨ 4 ≤ s.cmd.results.length) →
      (s.dp.replay ≠ [] ∨ ∀ n, ¬ s.HeadEligible n) → s.beforeService = none))

/-! ### Event delivery -/

/-- EventRaise, EventClear (a raise of the same moment wins), EventPermit and EventControl write exactly their own flags, from
bits 9 to 1 or bit 0 of the value, and HIRQ is asserted exactly while DeliverEnable is set and a source is eligible (R135,
R136, R140). -/
def Obligations.EventRegistersWriteTheirFlags : Prop :=
  ∀ (s : State) (v : Word),
    (∃ m : EventMask, (∀ i < 9, m.getLsbD i = (s.ev.requests.getLsbD i || v.getLsbD (i + 1))) ∧
      exec (.eventRaise v) s = .next { s with ev := { s.ev with requests := m }, out := s.out ++ [.writeDone] }) ∧
    (∀ setNow : EventMask, ∃ m : EventMask,
      (∀ i < 9, m.getLsbD i =
        if setNow.getLsbD i then true else if v.getLsbD (i + 1) then false else s.ev.requests.getLsbD i) ∧
      exec (.eventClear v setNow) s = .next { s with ev := { s.ev with requests := m }, out := s.out ++ [.writeDone] }) ∧
    (∃ m : EventMask, (∀ i < 9, m.getLsbD i = v.getLsbD (i + 1)) ∧
      exec (.eventPermit v) s = .next { s with ev := { s.ev with permits := m }, out := s.out ++ [.writeDone] }) ∧
    exec (.deliverEnable v) s =
      .next { s with ev := { s.ev with deliver := v.getLsbD 0 }, out := s.out ++ [.writeDone] } ∧
    (s.hirq = true ↔ s.ev.deliver = true ∧ ∃ x : Source, s.ev.Eligible x)

/-- Claim returns 0 and changes nothing where nothing can be delivered; else it takes the eligible source of smallest rank
into service, pushing a frame, and a fourth frame discards the oldest, sets StackOverflow and raises ServiceError (R137,
R138).
Complete pops the top frame, restoring level and permits, or on an empty stack goes to idle, sets StackUnderflow and
raises ServiceError; then Enable sets DeliverEnable (R139). -/
def Obligations.ClaimAndCompleteWorkTheStack : Prop :=
  (∀ s : State,
     (s.ev.deliver = false ∨ (∀ x, ¬ s.ev.Eligible x) →
       exec .claim s = .next { s with out := s.out ++ [.readData 0x74 0] }) ∧
     (∀ x : Source, s.ev.deliver = true → s.ev.Eligible x → (∀ y, s.ev.Eligible y → x.rank ≤ y.rank) →
       ∃ m : EventMask, (∀ i < 9, m.getLsbD i = (s.ev.requests.getLsbD i && i != x.rank - 1)) ∧
         (s.ev.stack.length < 3 →
           exec .claim s = .next { s with
             ev := { s.ev with requests := m, deliver := false, level := some x,
                               stack := ⟨s.ev.level, s.ev.permits⟩ :: s.ev.stack }
             out := s.out ++ [.readData 0x74 (BitVec.ofNat 32 x.rank)] }) ∧
         (3 ≤ s.ev.stack.length →
           exec .claim s = .next { s with
             ev := { s.ev with requests := m ||| 0x001, deliver := false, level := some x, overflow := true,
                               stack := ⟨s.ev.level, s.ev.permits⟩ :: s.ev.stack.take 2 }
             out := s.out ++ [.readData 0x74 (BitVec.ofNat 32 x.rank)] }))) ∧
  (∀ (s : State) (v : Word),
     (∀ f rest, s.ev.stack = f :: rest →
       exec (.complete v) s = .next { s with
         ev := { s.ev with stack := rest, level := f.level, permits := f.permits,
                           deliver := if v.getLsbD 0 then true else s.ev.deliver }
         out := s.out ++ [.writeDone] }) ∧
     (s.ev.stack = [] →
       exec (.complete v) s = .next { s with
         ev := { s.ev with level := none, underflow := true, requests := s.ev.requests ||| 0x001,
                           deliver := if v.getLsbD 0 then true else s.ev.deliver }
         out := s.out ++ [.writeDone] }))

/-- A write of ServiceStatus clears the sticky flags written as 1, and a read of a SignalCode register returns code, count and
pending and leaves the code with count 0 and pending clear (R141, R146). -/
def Obligations.StickyFlagsAndMailboxReads : Prop :=
  ∀ s : State,
    (∀ v : Word, exec (.serviceStatusClear v) s = .next { s with
      ev := { s.ev with
        overflow := if v.getLsbD 8 then false else s.ev.overflow
        underflow := if v.getLsbD 9 then false else s.ev.underflow }
      out := s.out ++ [.writeDone] }) ∧
    (∀ n : AgentId, s.ev.mail[n].count ≤ 15 → exec (.signalCodeRead n) s = .next { s with
      ev := { s.ev with mail := s.ev.mail.set n { s.ev.mail[n] with count := 0, pending := false } }
      out := s.out ++ [.readData (BitVec.ofNat 8 (0x88 + 4 * n.val))
        (BitVec.ofNat 32 (s.ev.mail[n].code.toNat + s.ev.mail[n].count * 256 +
          if s.ev.mail[n].pending then 0x8000 else 0))] })

/-- The pins and filters of the two detectors: a pin level other than the filtered level becomes the candidate, a return to it
leaves the filter idle, and a candidate held long enough becomes the filtered level (R142).
A write of ExtEventConfig sets both polarities and raises each source whose effective level turns from 0 to 1; the filters
run on (R143). That EV_PIN_CHANGE to the level the pin has changes nothing is the model's choice (notes/assumptions/4.md), and
that FILTERED_LEVEL_CHANGE settles a candidate at any count of periods too (notes/assumptions/6.md). -/
def Obligations.DetectorsRaiseOnEffectiveLevel : Prop :=
  (∀ (s : State) (level : Bool) (d : Detector → Detector),
     (d = fun x => if level = x.pin then x
       else { x with pin := level, filter := if level = x.filtered then .idle else .counting level 0 }) →
     exec (.evPinChange .eva level) s = .next { s with ev := { s.ev with eva := d s.ev.eva } } ∧
     exec (.evPinChange .evb level) s = .next { s with ev := { s.ev with evb := d s.ev.evb } } ∧
     (∀ cand n, s.ev.eva.filter = .counting cand n →
       exec (.filteredLevelChange .eva) s = .next { s with ev := { s.ev with
         eva := { s.ev.eva with filtered := cand, filter := .idle }
         requests :=
           if (s.ev.eva.polarity = .rising ∧ s.ev.eva.filtered = false ∧ cand = true) ∨
               (s.ev.eva.polarity = .falling ∧ s.ev.eva.filtered = true ∧ cand = false)
           then s.ev.requests ||| 0x002 else s.ev.requests } }) ∧
     (∀ cand n, s.ev.evb.filter = .counting cand n →
       exec (.filteredLevelChange .evb) s = .next { s with ev := { s.ev with
         evb := { s.ev.evb with filtered := cand, filter := .idle }
         requests :=
           if (s.ev.evb.polarity = .rising ∧ s.ev.evb.filtered = false ∧ cand = true) ∨
               (s.ev.evb.polarity = .falling ∧ s.ev.evb.filtered = true ∧ cand = false)
           then s.ev.requests ||| 0x080 else s.ev.requests } })) ∧
  (∀ (s : State) (v : Word) (pa pb : Polarity),
     pa = (if v.getLsbD 0 then .falling else .rising) → pb = (if v.getLsbD 1 then .falling else .rising) →
     exec (.extEventConfig v) s = .next { s with
       ev := { s.ev with
         eva := { s.ev.eva with polarity := pa }
         evb := { s.ev.evb with polarity := pb }
         requests := s.ev.requests |||
           (if s.ev.eva.polarity ≠ pa ∧ (pa = .rising ↔ s.ev.eva.filtered = true) then 0x002 else 0) |||
           (if s.ev.evb.polarity ≠ pb ∧ (pb = .rising ↔ s.ev.evb.filtered = true) then 0x080 else 0) }
       out := s.out ++ [.writeDone] })

/-! ### Epochs, the timer, the soft reset -/

/-- The epoch event advances the count, sets an armed flag and requests an epoch step, merging it into a pending one under its
own read-coincident mark; a read of EpochStatus returns the values before it, clears the flag and arms it, and marks an event
of the same moment (R25, R150, R151, R152; that the row asserts the moment is the model's choice, notes/assumptions/6.md). -/
def Obligations.EpochEventAndStatusRead : Prop :=
  ∀ s : State,
    exec .epochEvent s = .next { s with
      epoch := { s.epoch with
        divider := 0
        count := s.epoch.count + 1
        flag := if s.epoch.armed then true else s.epoch.flag
        readNow := false }
      dp := { s.dp with epoch := some s.epoch.readNow } } ∧
    (∀ sameMoment, exec (.epochStatusRead sameMoment) s = .next { s with
      epoch := { s.epoch with
        flag := false
        armed := true
        readNow := if sameMoment then true else s.epoch.readNow }
      out := s.out ++ [.readData 0x0C (BitVec.ofNat 32 (s.epoch.count.toNat +
        (if s.epoch.armed then 0x40000000 else 0) + (if s.epoch.flag then 0x80000000 else 0)))] })

/-- A write of DeviceConfig sets its three fields at once and restarts the divider exactly where the period select changes
(R124, R149). -/
def Obligations.DeviceConfigRestartsDivider : Prop :=
  ∀ (s : State) (v : Word),
    exec (.deviceConfig v) s = .next { s with
      config := { periodSelect := BitVec.ofNat 2 (v.toNat % 4), missTimeout := BitVec.ofNat 4 (v.toNat / 256 % 16),
                  lifetime := BitVec.ofNat 4 (v.toNat / 65536 % 16) }
      epoch := { s.epoch with
        divider := if v.toNat % 4 = s.config.periodSelect.toNat then s.epoch.divider else 0 }
      out := s.out ++ [.writeDone] }

/-- The soft reset, in the epoch step that finds it due (armed, mark clear, no gateway tag held): every request still in the
gateway is answered ResetAbort in the order of R162 and the state of R162's list is reset; all else is kept (R161, R162). That
the model's own count of admissions `admOrder` returns to 0 with the admission sequence counter is the model's choice
(notes/assumptions/10.md). -/
def Obligations.SoftResetFinishesAndClears : Prop :=
  ∀ s : State, s.dp.epoch = some false → s.power.resetArmed = true → (∀ g : GatewayTag, s.sys.table[g] = none) →
    ∃ t : State, exec .epochStep s = .next t ∧
      t = { s with
        out := t.out
        ports := t.ports
        admSeq := 0
        admOrder := 0
        dp := { pointer := 0, epoch := none, replay := [] }
        miss := { parked := [], members := [], queue := [], latch := none, lost := 0 }
        resv := t.resv
        log := { records := [], seq := 0, lost := 0 }
        cmd := { s.cmd with fifo := [], results := [], seq := 0, dropped := false }
        ev := { s.ev with requests := 0, permits := 0, deliver := false, level := none, stack := [], overflow := false,
                          underflow := false, mail := t.ev.mail }
        epoch := { s.epoch with flag := true, armed := true }
        timer := { s.timer with count := 0, prescaler := 0, run := false, overflow := false }
        power := { s.power with
          resetArmed := false
          softResetSeen := true
          device := if s.power.device = .operational ∨ s.power.portReady = true then .operational else .waking } } ∧
      (∀ n : AgentId, t.ports[n] = { s.ports[n] with line := [], tags := 0 } ∧ t.resv[n] = Reservation.cleared ∧
        t.ev.mail[n] = { code := 0, count := 0, pending := false }) ∧
      t.out = s.out ++ (((((List.finRange 8).flatMap fun n => s.ports[n].line.map fun it => (n, it.tag)) ++
          s.dp.replay.map (fun r => (r.agent, r.tag)) ++
          s.miss.parked.map (fun p => (p.item.agent, p.item.tag))).filter fun p => s.portState p.1 != .reset).map
            fun p => .response p.1 p.2 (.fault .resetAbort))

/-- An epoch step that performs no soft reset: every parked record ages and those at the miss timeout end with MissTimeout, in
parked-list order; every valid reservation ages and expires at the lifetime; an epoch-clocked timer ticks once; the backlog is
served. The rows MISS_TIMEOUT, RESERVATION_EXPIRY and the timer's rows are this step, where it times a record out, expires a
reservation or ticks (R33, R90, R103, R155; that these rows are the whole step is the model's choice, notes/assumptions/5.md). -/
def Obligations.EpochStepAgesAndTicks : Prop :=
  ∀ (s : State) (mark : Bool), s.dp.epoch = some mark →
    ¬ (s.power.resetArmed = true ∧ mark = false ∧ ∀ g : GatewayTag, s.sys.table[g] = none) →
    ∀ (parked : List Parked) (out : Parked → Bool),
      parked = s.miss.parked.map (fun p => { p with age := if p.age < 15 then p.age + 1 else p.age }) →
      out = (fun p => s.config.missTimeout != 0 && decide (s.config.missTimeout.toNat ≤ p.age)) →
    ∃ (t : State) (m : MissBlock) (v : Vector Reservation 8),
      exec .epochStep s = .next t ∧
      MissBlock.RemovedFrom { s.miss with parked := parked } out m ∧
      (∀ n : AgentId, ∀ age, age = (if s.resv[n].age < 15 then s.resv[n].age + 1 else s.resv[n].age) →
        (s.resv[n].valid = false → v[n] = s.resv[n]) ∧
        (s.resv[n].valid = true → v[n] =
          if s.config.lifetime ≠ 0 ∧ s.config.lifetime.toNat ≤ age then Reservation.cleared
          else { s.resv[n] with age := age })) ∧
      (∀ u, u = { (parked.filter out).foldl (fun t p =>
              (t.respond p.item.agent p.item.tag (.fault .missTimeout)).addFault .missTimeout p.item.agent (some p.item.ctx)
                p.item.tag (.access p.item.acc.kind) p.item.acc.addr)
            { s with miss := m, dp := { s.dp with epoch := none } } with resv := v } →
        t = State.serveBacklog (if s.timer.run = true ∧ s.timer.clock = .epoch then u.tick else u)) ∧
      ((∃ p ∈ parked, out p = true) → exec .missTimeout s = .next t) ∧
      ((∃ n : AgentId, s.resv[n].valid = true ∧ v[n] = Reservation.cleared) → exec .reservationExpiry s = .next t) ∧
      (s.timer.run = true → s.timer.clock = .epoch →
        exec .timerTick s = .next t ∧
        (s.timer.count.toNat + 1 = s.timer.compare.toNat → exec .intervalMatch s = .next t) ∧
        (s.timer.mode = .freeRun → s.timer.count = 4095 → exec .timerOverflow s = .next t))

/-- One tick of the interval timer, by mode and the count before it; clocked by TBCLK it also returns the prescaler to 0
(R154, R155; that the rows assert the moment of the tick is the model's choice, notes/assumptions/6.md). -/
def Obligations.TimerTickByModeAndCount : Prop :=
  (∀ s : State,
    (s.timer.mode = .modulo → s.timer.count.toNat + 1 = s.timer.compare.toNat →
      s.tick = { s with timer := { s.timer with count := 0 }, ev := { s.ev with requests := s.ev.requests ||| 0x020 } }) ∧
    (s.timer.mode = .modulo → s.timer.count.toNat = 4095 → s.tick = { s with timer := { s.timer with count := 0 } }) ∧
    (s.timer.mode = .freeRun → s.timer.count.toNat + 1 = s.timer.compare.toNat →
      s.tick = { s with timer := { s.timer with count := s.timer.compare },
                        ev := { s.ev with requests := s.ev.requests ||| 0x020 } }) ∧
    (s.timer.mode = .freeRun → s.timer.count.toNat = 4095 →
      s.tick = { s with timer := { s.timer with overflow := true, run := false },
                        ev := { s.ev with requests := s.ev.requests ||| 0x100 } }) ∧
    (s.timer.count.toNat + 1 ≠ s.timer.compare.toNat → s.timer.count.toNat ≠ 4095 →
      s.tick = { s with timer := { s.timer with count := s.timer.count + 1 } })) ∧
  ∀ (s : State), s.timer.run = true → s.timer.clock ≠ .epoch →
    ∀ t, t = State.tick { s with timer := { s.timer with prescaler := 0 } } →
      exec .timerTick s = .next t ∧
      (s.timer.count.toNat + 1 = s.timer.compare.toNat → exec .intervalMatch s = .next t) ∧
      (s.timer.mode = .freeRun → s.timer.count.toNat = 4095 → exec .timerOverflow s = .next t)

/-- The host's writes of the timer: TimerControl sets clock, Run and mode at once, its Reset action clears the count, and the
prescaler restarts where Run is set from clear, the clock changes or the Reset action is carried; a zero TimerCompare is
ignored; TimerStatus clears Overflow unless an overflow falls at the same moment (R153, R155; that RESET_ACTION is a
write of TimerControl is the model's choice, notes/assumptions/5.md). -/
def Obligations.TimerRegisterWrites : Prop :=
  ∀ (s : State) (v : Word),
    (∀ (clock : TimerClock) (reset : Bool) (c : Instr),
      clock.code = v.toNat % 4 → (c = .timerControl v ∧ reset = v.getLsbD 8 ∨ c = .resetAction v ∧ reset = true) →
      exec c s = .next { s with
        timer := { s.timer with
          count := if reset then 0 else s.timer.count
          clock := clock
          mode := if v.getLsbD 5 then .freeRun else .modulo
          run := v.getLsbD 4
          prescaler := if reset = false ∧ v.getLsbD 4 = true ∧ s.timer.run = true ∧ clock = s.timer.clock
            then s.timer.prescaler else 0 }
        out := s.out ++ [.writeDone] }) ∧
    exec (.timerCompare v) s = .next { s with
      timer := { s.timer with
        compare := if v.toNat % 4096 = 0 then s.timer.compare else BitVec.ofNat 12 (v.toNat % 4096) }
      out := s.out ++ [.writeDone] } ∧
    (∀ setNow, exec (.timerStatusClear v setNow) s = .next { s with
      timer := { s.timer with overflow := if setNow then true else if v.getLsbD 0 then false else s.timer.overflow }
      out := s.out ++ [.writeDone] })

/-! ### The host register port -/

/-- A host access other than a word access at a multiple of 4 gets an error and has no effect; an accepted read of a register
without a side effect returns its value and changes nothing; an accepted write is the register's write (R121, R122; that the
row carries any host access is the model's choice, notes/assumptions/12.md).
A word write by its offset in the map of R124: a CmdArg register is stored; the registers with a row of their own act as
that row does; every other aligned offset, of a read-only register or unused, ignores the write without error, and an
unaligned one is refused (R121, R122, R124, R127). -/
def Obligations.HostAccessesFollowTheMap : Prop :=
  (∀ (s : State) (off : BitVec 8) (v : Word),
     (∀ (w : Bool) (size : AccessSize), size ≠ .word ∨ off.toNat % 4 ≠ 0 →
       exec (.hostAccessError ⟨w, size, off, v⟩) s = .next { s with out := s.out ++ [.accessError] }) ∧
     (off.toNat % 4 = 0 → off ∉ [0x0C#8, 0x74#8, 0x88#8, 0x8C#8, 0x90#8, 0x94#8, 0x98#8, 0x9C#8, 0xA0#8, 0xA4#8] →
       exec (.hostAccessError ⟨false, .word, off, v⟩) s =
         .next { s with out := s.out ++ [.readData off (s.readValue off)] }) ∧
     exec (.hostAccessError ⟨false, .word, 0x0C, v⟩) s = exec (.epochStatusRead false) s ∧
     exec (.hostAccessError ⟨false, .word, 0x74, v⟩) s = exec .claim s ∧
     (∀ n : AgentId,
       exec (.hostAccessError ⟨false, .word, BitVec.ofNat 8 (0x88 + 4 * n.val), v⟩) s = exec (.signalCodeRead n) s) ∧
     exec (.hostAccessError ⟨true, .word, off, v⟩) s = exec (.registerWrite off v) s) ∧
  (∀ (s : State) (off : BitVec 8) (v : Word),
     (∀ i : Fin 4, exec (.registerWrite (BitVec.ofNat 8 (0x10 + 4 * i.val)) v) s =
       .next { s with cmd := { s.cmd with args := s.cmd.args.set i v }, out := s.out ++ [.writeDone] }) ∧
     (∀ p ∈ [(0x08#8, Instr.deviceConfig v), (0x20#8, .cmdIssue v), (0x24#8, .cmdDroppedClear v false),
         (0x34#8, .resultPop v), (0x40#8, .missPop v), (0x58#8, .faultPop v), (0x60#8, .eventRaise v),
         (0x64#8, .eventClear v 0), (0x6C#8, .eventPermit v), (0x70#8, .deliverEnable v), (0x78#8, .complete v),
         (0x7C#8, .serviceStatusClear v), (0x80#8, .extEventConfig v), (0xA8#8, .timerControl v),
         (0xAC#8, .timerCompare v), (0xB4#8, .timerStatusClear v false)],
       exec (.registerWrite p.1 v) s = exec p.2 s) ∧
     (off.toNat % 4 = 0 →
       off ∉ [0x08#8, 0x10#8, 0x14#8, 0x18#8, 0x1C#8, 0x20#8, 0x24#8, 0x34#8, 0x40#8, 0x58#8, 0x60#8, 0x64#8, 0x6C#8, 0x70#8,
              0x78#8, 0x7C#8, 0x80#8, 0xA8#8, 0xAC#8, 0xB4#8] →
       exec (.registerWrite off v) s = .next { s with out := s.out ++ [.writeDone] }) ∧
     (off.toNat % 4 ≠ 0 → exec (.registerWrite off v) s = .next { s with out := s.out ++ [.accessError] }))

/-- What the status registers show: the fields of R124 and R125 at their bits, the counts as numbers, reserved bits 0; the
registers of type W and the unused offsets read 0 (R122).
The heads of the result FIFO, the fault log and the presented latch, field by field in the layouts of R116 and R124, with the
numbers of R115, R116 and R130, and 0 where they are empty. -/
def Obligations.ReadRegistersShowState : Prop :=
  (∀ s : State, s.Bounded →
     s.readValue 0x00 = 0x06200001 ∧
     (s.readValue 0x08).toNat = s.config.periodSelect.toNat + s.config.missTimeout.toNat * 256 +
       s.config.lifetime.toNat * 65536 ∧
     (∀ i : Fin 4, s.readValue (BitVec.ofNat 8 (0x10 + 4 * i.val)) = s.cmd.args[i]) ∧
     (s.readValue 0x44).toNat =
       s.miss.parked.length + s.dp.replay.length * 256 + s.miss.members.length * 65536 +
       s.miss.queue.length * 0x1000000 + (if s.miss.latch = none then 0 else 0x80000000) ∧
     s.readValue 0x70 = (if s.ev.deliver then 1 else 0) ∧
     (s.readValue 0x80).toNat =
       (if s.ev.eva.polarity = .falling then 1 else 0) + (if s.ev.evb.polarity = .falling then 2 else 0) +
       (if s.ev.eva.filtered then 256 else 0) + (if s.ev.evb.filtered then 512 else 0) ∧
     (∀ n : AgentId, (s.readValue 0x84).getLsbD n.val = s.ev.mail[n].pending) ∧
     (∀ i, 8 ≤ i → (s.readValue 0x84).getLsbD i = false) ∧
     (s.readValue 0xA8).toNat =
       (match s.timer.clock with | .us1 => 0 | .us16 => 1 | .us256 => 2 | .epoch => 3) +
       (if s.timer.run then 16 else 0) + (if s.timer.mode = .freeRun then 32 else 0) ∧
     (s.readValue 0xAC).toNat = s.timer.compare.toNat ∧
     s.readValue 0xB4 = (if s.timer.overflow then 1 else 0) ∧
     (s.readValue 0x04).toNat =
       (match s.power.device with | .operational => 0 | .standby => 1 | .waking => 2) +
       (if s.power.hold then 16 else 0) + (if s.power.resetArmed then 32 else 0) +
       (if s.power.softResetSeen then 64 else 0) + (if s.sys.stray then 128 else 0) + s.miss.lost * 256 ∧
     (s.readValue 0x24).toNat =
       s.cmd.fifo.length + s.cmd.results.length * 16 + (if s.cmd.dropped then 256 else 0) ∧
     (s.readValue 0x5C).toNat = s.log.records.length + s.log.lost * 256 ∧
     (s.readValue 0x68).toNat = s.ev.requests.toNat * 2 ∧
     (s.readValue 0x6C).toNat = s.ev.permits.toNat * 2 ∧
     (s.readValue 0x7C).toNat =
       (match s.ev.level with | none => 10 | some x => sourceRank x) + s.ev.stack.length * 16 +
       (if s.ev.overflow then 256 else 0) + (if s.ev.underflow then 512 else 0) ∧
     (s.readValue 0xB0).toNat = s.timer.count.toNat ∧
     (∀ n : AgentId, (s.readValue (BitVec.ofNat 8 (0xB8 + 4 * n.val))).toNat =
       (match s.portState n with | .opened => 0 | .held => 1 | .reset => 2 | .flushing => 3) +
       s.ports[n].line.length * 16 + s.ports[n].tags.toNat * 256 + s.ports[n].flush * 4096) ∧
     (∀ g : GatewayTag,
       (s.readValue 0xD8).getLsbD g.val = (s.sys.table[g]).isSome ∧
       (s.readValue 0xD8).getLsbD (16 + g.val) = (s.sys.table[g]).any (·.orphaned))) ∧
  (∀ (s : State) (off : BitVec 8),
     off ∈ [0x20#8, 0x34#8, 0x40#8, 0x58#8, 0x60#8, 0x64#8, 0x78#8] ∨ 0xDC ≤ off.toNat → s.readValue off = 0) ∧
  (∀ s : State,
     (s.cmd.results = [] → s.readValue 0x28 = 0 ∧ s.readValue 0x2C = 0 ∧ s.readValue 0x30 = 0) ∧
     (∀ r rest, s.cmd.results = r :: rest →
       (s.readValue 0x28).toNat = 0x80000000 + r.seq.toNat * 65536 + r.kind.toNat * 256 + statusNumber r.status ∧
       s.readValue 0x2C = r.data0 ∧ s.readValue 0x30 = r.data1) ∧
     (s.log.records = [] → ∀ i : Fin 4, s.readValue (BitVec.ofNat 8 (0x48 + 4 * i.val)) = 0) ∧
     (∀ r rest, s.log.records = r :: rest →
       (s.readValue 0x48).toNat = 0x80000000 + r.seq.toNat * 65536 + faultNumber r.kind ∧
       (s.readValue 0x4C).toNat = (match r.ctx with | none => 0 | some c => c.val * 65536 + 0x8000) +
         requestNumber r.req * 256 +
         r.tag.val * 16 + r.agent.val ∧
       s.readValue 0x50 = r.addr ∧ (s.readValue 0x54).toNat = r.stamp.toNat) ∧
     (s.miss.latch = none → s.readValue 0x38 = 0 ∧ s.readValue 0x3C = 0) ∧
     (∀ l, s.miss.latch = some l →
       (s.readValue 0x38).toNat = 0x80000000 + (if l.resolved then 0x40000000 else 0) +
         (if l.report.notParked then 0x20000000 else 0) + l.report.agent.val * 0x1000000 + l.report.ctx.val * 0x100000 +
         requestNumber (.access l.report.kind) * 65536 + l.report.key.seg.toNat ∧
       (s.readValue 0x3C).toNat = l.report.key.vpn.toNat))

/-! ### What every step keeps -/

/-- Every step keeps every count in its range and every queue within its capacity (R9, R17, R27, R77, R79, R80, R83, R95,
R106, R117, R126, R133, R145, R148, R153). The flush counts, the miss page set and the send queue are bounded by the records,
the keys and the gateway tags they count, so for them the invariants of these are premises. -/
def Obligations.CountsAndQueuesStayBounded : Prop :=
  (∀ s t : State, s.InRange → step s = .next t → t.InRange) ∧
  (∀ s t : State, s.Bounded → s.PageSetSound → s.DownstreamSound → s.TagsSound → step s = .next t → t.Bounded)

/-- Every step keeps the translation cache sound: no two non-Empty entries with one key, and the fields each entry state
leaves at 0 (R55, R57). -/
def Obligations.CacheStaysSound : Prop :=
  ∀ s t : State, s.CacheSound → step s = .next t → t.CacheSound

/-- Every step keeps the reservations sound: a clear one holds 0, a line is a multiple of 32, an unbound agent holds none
(R95). -/
def Obligations.ReservationsStaySound : Prop :=
  ∀ s t : State, s.ReservationsSound → step s = .next t → t.ReservationsSound

/-- While an entry is Valid no parked record has its key (R69). -/
def Obligations.NothingParksUnderValidEntry : Prop :=
  ∀ s t : State, s.NoneParkedUnderValid → step s = .next t → t.NoneParkedUnderValid

/-- The miss page set has exactly one member for each key parked, and each member has exactly the report its state says (R79,
R80, R84). -/
def Obligations.PageSetAndReportsStaySound : Prop :=
  ∀ s t : State, s.PageSetSound → s.ReportsSound → step s = .next t → t.PageSetSound ∧ t.ReportsSound

/-- Each waiting downstream request holds a gateway tag of its own, and each flush count is the number of orphaned records of
its agent (R17, R108). -/
def Obligations.DownstreamStaysSound : Prop :=
  ∀ s t : State, s.DownstreamSound → step s = .next t → t.DownstreamSound

/-- A tag is in use exactly while one request occupies it, and a port that has orphaned items to flush has no other request in
the gateway (R5, R9, R16, R19, R79). -/
def Obligations.TagsNameRequestsInGateway : Prop :=
  ∀ s t : State, s.TagsSound → step s = .next t → t.TagsSound

/-- Contexts, bindings and the states of cache entries change in host command steps and at power-on reset only (R35, R36, R56,
R70). BACKLOG_SERVICE is a host command step where one is ready (notes/assumptions/7.md). -/
def Obligations.OnlyCommandsChangeTranslation : Prop :=
  ∀ (c : Instr) (s t : State), exec c s = .next t → c ∉ hostCommandSteps → (∀ pins, c ≠ .powerOnReset pins) →
    (c = .backlogService → ∀ k a, ¬ s.CommandAtHead k a) →
    t.contexts = s.contexts ∧ t.bindings = s.bindings ∧ t.cache.pointer = s.cache.pointer ∧
    ∀ i : EntryId, ∃ ref mod, t.cache.entries[i] = { s.cache.entries[i] with referenced := ref, modified := mod }

/-- StrayResponse, SoftResetSeen and Armed are cleared by power-on reset and by nothing else; ResetArmed is cleared by it, by the
epoch step that performs the soft reset, and by nothing else (R113, R151, R157, R160, R162). -/
def Obligations.ResetMarksClearOnlyByResets : Prop :=
  (∀ (pins : Pins) (s t : State), exec (.powerOnReset pins) s = .next t →
    t.sys.stray = false ∧ t.power.softResetSeen = false ∧ t.epoch.armed = false ∧ t.power.resetArmed = false) ∧
  (∀ s t : State, exec .epochStep s = .next t → s.dp.epoch = some false → s.power.resetArmed = true →
    (∀ g : GatewayTag, s.sys.table[g] = none) → s.SoftResets .epochStep t) ∧
  (∀ (c : Instr) (s t : State), exec c s = .next t → (∀ pins, c ≠ .powerOnReset pins) →
    (s.sys.stray = true → t.sys.stray = true) ∧ (s.power.softResetSeen = true → t.power.softResetSeen = true) ∧
    (s.epoch.armed = true → t.epoch.armed = true) ∧
    (s.power.resetArmed = true → t.power.resetArmed = true ∨ s.SoftResets c t))

/-- The device state changes only as R157 lists: to Operational by power-on reset; into Standby by EnterStandby; out of Standby by
an admission, a write of CmdIssue or the soft reset, to Waking, or at once to Operational where PORT_READY is high; from Waking
to Operational by PORT_READY going high, or at a soft reset that finds it high (R114, R157, R162 to R165). -/
def Obligations.DeviceStateChangesAsListed : Prop :=
  ∀ (c : Instr) (s t : State), exec c s = .next t → t.power.device ≠ s.power.device →
    ((∃ pins, c = .powerOnReset pins) ∧ t.power.device = .operational) ∨
    (c = .enterStandby ∧ t.power.device = .standby) ∨
    (s.power.device = .standby ∧ t.power.device = (if s.power.portReady then .operational else .waking) ∧
      ((∃ n m, c = .admission n m ∧ s.portState n = .opened ∧ s.ports[n].line.length < 4) ∨ (∃ v, c = .cmdIssue v) ∨
        (∃ a : HostAccess, c = .hostAccessError a ∧ a.isWrite = true ∧ a.size = .word ∧ a.offset = 0x20) ∨
        (∃ v, c = .registerWrite 0x20 v) ∨ s.SoftResets c t)) ∨
    (s.power.device = .waking ∧ t.power.device = .operational ∧
      (c = .portReady true ∨ (s.SoftResets c t ∧ s.power.portReady = true)))
end

