-- ==== Sys2Proof/Laws/State.lean ====
section
/-! SUPPORT. One lemma per field per update of `State`, so that no proof unfolds a record update. -/

namespace Sys2Proof.Machine

/-! ### `emit` -/

@[simp] theorem State.emit_ports (s : State) (o : Out) : (s.emit o).ports = s.ports := rfl
@[simp] theorem State.emit_admSeq (s : State) (o : Out) : (s.emit o).admSeq = s.admSeq := rfl
@[simp] theorem State.emit_admOrder (s : State) (o : Out) : (s.emit o).admOrder = s.admOrder := rfl
@[simp] theorem State.emit_dp (s : State) (o : Out) : (s.emit o).dp = s.dp := rfl
@[simp] theorem State.emit_contexts (s : State) (o : Out) : (s.emit o).contexts = s.contexts := rfl
@[simp] theorem State.emit_bindings (s : State) (o : Out) : (s.emit o).bindings = s.bindings := rfl
@[simp] theorem State.emit_cache (s : State) (o : Out) : (s.emit o).cache = s.cache := rfl
@[simp] theorem State.emit_miss (s : State) (o : Out) : (s.emit o).miss = s.miss := rfl
@[simp] theorem State.emit_resv (s : State) (o : Out) : (s.emit o).resv = s.resv := rfl
@[simp] theorem State.emit_sys (s : State) (o : Out) : (s.emit o).sys = s.sys := rfl
@[simp] theorem State.emit_log (s : State) (o : Out) : (s.emit o).log = s.log := rfl
@[simp] theorem State.emit_cmd (s : State) (o : Out) : (s.emit o).cmd = s.cmd := rfl
@[simp] theorem State.emit_ev (s : State) (o : Out) : (s.emit o).ev = s.ev := rfl
@[simp] theorem State.emit_epoch (s : State) (o : Out) : (s.emit o).epoch = s.epoch := rfl
@[simp] theorem State.emit_timer (s : State) (o : Out) : (s.emit o).timer = s.timer := rfl
@[simp] theorem State.emit_config (s : State) (o : Out) : (s.emit o).config = s.config := rfl
@[simp] theorem State.emit_power (s : State) (o : Out) : (s.emit o).power = s.power := rfl
@[simp] theorem State.emit_out (s : State) (o : Out) : (s.emit o).out = s.out ++ [o] := rfl
@[simp] theorem State.emit_pending (s : State) (o : Out) : (s.emit o).pending = s.pending := rfl

/-! ### `raise` -/

@[simp] theorem State.raise_ports (s : State) (x : Source) : (s.raise x).ports = s.ports := rfl
@[simp] theorem State.raise_admSeq (s : State) (x : Source) : (s.raise x).admSeq = s.admSeq := rfl
@[simp] theorem State.raise_admOrder (s : State) (x : Source) : (s.raise x).admOrder = s.admOrder := rfl
@[simp] theorem State.raise_dp (s : State) (x : Source) : (s.raise x).dp = s.dp := rfl
@[simp] theorem State.raise_contexts (s : State) (x : Source) : (s.raise x).contexts = s.contexts := rfl
@[simp] theorem State.raise_bindings (s : State) (x : Source) : (s.raise x).bindings = s.bindings := rfl
@[simp] theorem State.raise_cache (s : State) (x : Source) : (s.raise x).cache = s.cache := rfl
@[simp] theorem State.raise_miss (s : State) (x : Source) : (s.raise x).miss = s.miss := rfl
@[simp] theorem State.raise_resv (s : State) (x : Source) : (s.raise x).resv = s.resv := rfl
@[simp] theorem State.raise_sys (s : State) (x : Source) : (s.raise x).sys = s.sys := rfl
@[simp] theorem State.raise_log (s : State) (x : Source) : (s.raise x).log = s.log := rfl
@[simp] theorem State.raise_cmd (s : State) (x : Source) : (s.raise x).cmd = s.cmd := rfl
@[simp] theorem State.raise_ev (s : State) (x : Source) : (s.raise x).ev = s.ev.raise x := rfl
@[simp] theorem State.raise_epoch (s : State) (x : Source) : (s.raise x).epoch = s.epoch := rfl
@[simp] theorem State.raise_timer (s : State) (x : Source) : (s.raise x).timer = s.timer := rfl
@[simp] theorem State.raise_config (s : State) (x : Source) : (s.raise x).config = s.config := rfl
@[simp] theorem State.raise_power (s : State) (x : Source) : (s.raise x).power = s.power := rfl
@[simp] theorem State.raise_out (s : State) (x : Source) : (s.raise x).out = s.out := rfl
@[simp] theorem State.raise_pending (s : State) (x : Source) : (s.raise x).pending = s.pending := rfl

/-! ### `setPort` -/

@[simp] theorem State.setPort_ports (s : State) (n : AgentId) (f : Port → Port) : (s.setPort n f).ports = s.ports.set n (f s.ports[n]) := rfl
@[simp] theorem State.setPort_admSeq (s : State) (n : AgentId) (f : Port → Port) : (s.setPort n f).admSeq = s.admSeq := rfl
@[simp] theorem State.setPort_admOrder (s : State) (n : AgentId) (f : Port → Port) : (s.setPort n f).admOrder = s.admOrder := rfl
@[simp] theorem State.setPort_dp (s : State) (n : AgentId) (f : Port → Port) : (s.setPort n f).dp = s.dp := rfl
@[simp] theorem State.setPort_contexts (s : State) (n : AgentId) (f : Port → Port) : (s.setPort n f).contexts = s.contexts := rfl
@[simp] theorem State.setPort_bindings (s : State) (n : AgentId) (f : Port → Port) : (s.setPort n f).bindings = s.bindings := rfl
@[simp] theorem State.setPort_cache (s : State) (n : AgentId) (f : Port → Port) : (s.setPort n f).cache = s.cache := rfl
@[simp] theorem State.setPort_miss (s : State) (n : AgentId) (f : Port → Port) : (s.setPort n f).miss = s.miss := rfl
@[simp] theorem State.setPort_resv (s : State) (n : AgentId) (f : Port → Port) : (s.setPort n f).resv = s.resv := rfl
@[simp] theorem State.setPort_sys (s : State) (n : AgentId) (f : Port → Port) : (s.setPort n f).sys = s.sys := rfl
@[simp] theorem State.setPort_log (s : State) (n : AgentId) (f : Port → Port) : (s.setPort n f).log = s.log := rfl
@[simp] theorem State.setPort_cmd (s : State) (n : AgentId) (f : Port → Port) : (s.setPort n f).cmd = s.cmd := rfl
@[simp] theorem State.setPort_ev (s : State) (n : AgentId) (f : Port → Port) : (s.setPort n f).ev = s.ev := rfl
@[simp] theorem State.setPort_epoch (s : State) (n : AgentId) (f : Port → Port) : (s.setPort n f).epoch = s.epoch := rfl
@[simp] theorem State.setPort_timer (s : State) (n : AgentId) (f : Port → Port) : (s.setPort n f).timer = s.timer := rfl
@[simp] theorem State.setPort_config (s : State) (n : AgentId) (f : Port → Port) : (s.setPort n f).config = s.config := rfl
@[simp] theorem State.setPort_power (s : State) (n : AgentId) (f : Port → Port) : (s.setPort n f).power = s.power := rfl
@[simp] theorem State.setPort_out (s : State) (n : AgentId) (f : Port → Port) : (s.setPort n f).out = s.out := rfl
@[simp] theorem State.setPort_pending (s : State) (n : AgentId) (f : Port → Port) : (s.setPort n f).pending = s.pending := rfl

/-! ### `clearReservation` -/

@[simp] theorem State.clearReservation_ports (s : State) (n : AgentId) : (s.clearReservation n).ports = s.ports := rfl
@[simp] theorem State.clearReservation_admSeq (s : State) (n : AgentId) : (s.clearReservation n).admSeq = s.admSeq := rfl
@[simp] theorem State.clearReservation_admOrder (s : State) (n : AgentId) : (s.clearReservation n).admOrder = s.admOrder := rfl
@[simp] theorem State.clearReservation_dp (s : State) (n : AgentId) : (s.clearReservation n).dp = s.dp := rfl
@[simp] theorem State.clearReservation_contexts (s : State) (n : AgentId) : (s.clearReservation n).contexts = s.contexts := rfl
@[simp] theorem State.clearReservation_bindings (s : State) (n : AgentId) : (s.clearReservation n).bindings = s.bindings := rfl
@[simp] theorem State.clearReservation_cache (s : State) (n : AgentId) : (s.clearReservation n).cache = s.cache := rfl
@[simp] theorem State.clearReservation_miss (s : State) (n : AgentId) : (s.clearReservation n).miss = s.miss := rfl
@[simp] theorem State.clearReservation_resv (s : State) (n : AgentId) : (s.clearReservation n).resv = s.resv.set n Reservation.cleared := rfl
@[simp] theorem State.clearReservation_sys (s : State) (n : AgentId) : (s.clearReservation n).sys = s.sys := rfl
@[simp] theorem State.clearReservation_log (s : State) (n : AgentId) : (s.clearReservation n).log = s.log := rfl
@[simp] theorem State.clearReservation_cmd (s : State) (n : AgentId) : (s.clearReservation n).cmd = s.cmd := rfl
@[simp] theorem State.clearReservation_ev (s : State) (n : AgentId) : (s.clearReservation n).ev = s.ev := rfl
@[simp] theorem State.clearReservation_epoch (s : State) (n : AgentId) : (s.clearReservation n).epoch = s.epoch := rfl
@[simp] theorem State.clearReservation_timer (s : State) (n : AgentId) : (s.clearReservation n).timer = s.timer := rfl
@[simp] theorem State.clearReservation_config (s : State) (n : AgentId) : (s.clearReservation n).config = s.config := rfl
@[simp] theorem State.clearReservation_power (s : State) (n : AgentId) : (s.clearReservation n).power = s.power := rfl
@[simp] theorem State.clearReservation_out (s : State) (n : AgentId) : (s.clearReservation n).out = s.out := rfl
@[simp] theorem State.clearReservation_pending (s : State) (n : AgentId) : (s.clearReservation n).pending = s.pending := rfl

/-! ### `clearReservationsWhere` -/

@[simp] theorem State.clearReservationsWhere_ports (s : State) (p : AgentId → Reservation → Bool) : (s.clearReservationsWhere p).ports = s.ports := rfl
@[simp] theorem State.clearReservationsWhere_admSeq (s : State) (p : AgentId → Reservation → Bool) : (s.clearReservationsWhere p).admSeq = s.admSeq := rfl
@[simp] theorem State.clearReservationsWhere_admOrder (s : State) (p : AgentId → Reservation → Bool) : (s.clearReservationsWhere p).admOrder = s.admOrder := rfl
@[simp] theorem State.clearReservationsWhere_dp (s : State) (p : AgentId → Reservation → Bool) : (s.clearReservationsWhere p).dp = s.dp := rfl
@[simp] theorem State.clearReservationsWhere_contexts (s : State) (p : AgentId → Reservation → Bool) : (s.clearReservationsWhere p).contexts = s.contexts := rfl
@[simp] theorem State.clearReservationsWhere_bindings (s : State) (p : AgentId → Reservation → Bool) : (s.clearReservationsWhere p).bindings = s.bindings := rfl
@[simp] theorem State.clearReservationsWhere_cache (s : State) (p : AgentId → Reservation → Bool) : (s.clearReservationsWhere p).cache = s.cache := rfl
@[simp] theorem State.clearReservationsWhere_miss (s : State) (p : AgentId → Reservation → Bool) : (s.clearReservationsWhere p).miss = s.miss := rfl
@[simp] theorem State.clearReservationsWhere_resv (s : State) (p : AgentId → Reservation → Bool) : (s.clearReservationsWhere p).resv = mapIdx (fun n r => if r.valid && p n r then Reservation.cleared else r) s.resv := rfl
@[simp] theorem State.clearReservationsWhere_sys (s : State) (p : AgentId → Reservation → Bool) : (s.clearReservationsWhere p).sys = s.sys := rfl
@[simp] theorem State.clearReservationsWhere_log (s : State) (p : AgentId → Reservation → Bool) : (s.clearReservationsWhere p).log = s.log := rfl
@[simp] theorem State.clearReservationsWhere_cmd (s : State) (p : AgentId → Reservation → Bool) : (s.clearReservationsWhere p).cmd = s.cmd := rfl
@[simp] theorem State.clearReservationsWhere_ev (s : State) (p : AgentId → Reservation → Bool) : (s.clearReservationsWhere p).ev = s.ev := rfl
@[simp] theorem State.clearReservationsWhere_epoch (s : State) (p : AgentId → Reservation → Bool) : (s.clearReservationsWhere p).epoch = s.epoch := rfl
@[simp] theorem State.clearReservationsWhere_timer (s : State) (p : AgentId → Reservation → Bool) : (s.clearReservationsWhere p).timer = s.timer := rfl
@[simp] theorem State.clearReservationsWhere_config (s : State) (p : AgentId → Reservation → Bool) : (s.clearReservationsWhere p).config = s.config := rfl
@[simp] theorem State.clearReservationsWhere_power (s : State) (p : AgentId → Reservation → Bool) : (s.clearReservationsWhere p).power = s.power := rfl
@[simp] theorem State.clearReservationsWhere_out (s : State) (p : AgentId → Reservation → Bool) : (s.clearReservationsWhere p).out = s.out := rfl
@[simp] theorem State.clearReservationsWhere_pending (s : State) (p : AgentId → Reservation → Bool) : (s.clearReservationsWhere p).pending = s.pending := rfl

/-! ### `clearFrame` -/

@[simp] theorem State.clearFrame_ports (s : State) (b : BitVec 4) (f : BitVec 20) : (s.clearFrame b f).ports = s.ports := rfl
@[simp] theorem State.clearFrame_admSeq (s : State) (b : BitVec 4) (f : BitVec 20) : (s.clearFrame b f).admSeq = s.admSeq := rfl
@[simp] theorem State.clearFrame_admOrder (s : State) (b : BitVec 4) (f : BitVec 20) : (s.clearFrame b f).admOrder = s.admOrder := rfl
@[simp] theorem State.clearFrame_dp (s : State) (b : BitVec 4) (f : BitVec 20) : (s.clearFrame b f).dp = s.dp := rfl
@[simp] theorem State.clearFrame_contexts (s : State) (b : BitVec 4) (f : BitVec 20) : (s.clearFrame b f).contexts = s.contexts := rfl
@[simp] theorem State.clearFrame_bindings (s : State) (b : BitVec 4) (f : BitVec 20) : (s.clearFrame b f).bindings = s.bindings := rfl
@[simp] theorem State.clearFrame_cache (s : State) (b : BitVec 4) (f : BitVec 20) : (s.clearFrame b f).cache = s.cache := rfl
@[simp] theorem State.clearFrame_miss (s : State) (b : BitVec 4) (f : BitVec 20) : (s.clearFrame b f).miss = s.miss := rfl
@[simp] theorem State.clearFrame_sys (s : State) (b : BitVec 4) (f : BitVec 20) : (s.clearFrame b f).sys = s.sys := rfl
@[simp] theorem State.clearFrame_log (s : State) (b : BitVec 4) (f : BitVec 20) : (s.clearFrame b f).log = s.log := rfl
@[simp] theorem State.clearFrame_cmd (s : State) (b : BitVec 4) (f : BitVec 20) : (s.clearFrame b f).cmd = s.cmd := rfl
@[simp] theorem State.clearFrame_ev (s : State) (b : BitVec 4) (f : BitVec 20) : (s.clearFrame b f).ev = s.ev := rfl
@[simp] theorem State.clearFrame_epoch (s : State) (b : BitVec 4) (f : BitVec 20) : (s.clearFrame b f).epoch = s.epoch := rfl
@[simp] theorem State.clearFrame_timer (s : State) (b : BitVec 4) (f : BitVec 20) : (s.clearFrame b f).timer = s.timer := rfl
@[simp] theorem State.clearFrame_config (s : State) (b : BitVec 4) (f : BitVec 20) : (s.clearFrame b f).config = s.config := rfl
@[simp] theorem State.clearFrame_power (s : State) (b : BitVec 4) (f : BitVec 20) : (s.clearFrame b f).power = s.power := rfl
@[simp] theorem State.clearFrame_out (s : State) (b : BitVec 4) (f : BitVec 20) : (s.clearFrame b f).out = s.out := rfl
@[simp] theorem State.clearFrame_pending (s : State) (b : BitVec 4) (f : BitVec 20) : (s.clearFrame b f).pending = s.pending := rfl

/-! ### `serveBacklog` -/

@[simp] theorem State.serveBacklog_ports (s : State) : (s.serveBacklog).ports = s.ports := rfl
@[simp] theorem State.serveBacklog_admSeq (s : State) : (s.serveBacklog).admSeq = s.admSeq := rfl
@[simp] theorem State.serveBacklog_admOrder (s : State) : (s.serveBacklog).admOrder = s.admOrder := rfl
@[simp] theorem State.serveBacklog_dp (s : State) : (s.serveBacklog).dp = s.dp := rfl
@[simp] theorem State.serveBacklog_contexts (s : State) : (s.serveBacklog).contexts = s.contexts := rfl
@[simp] theorem State.serveBacklog_bindings (s : State) : (s.serveBacklog).bindings = s.bindings := rfl
@[simp] theorem State.serveBacklog_cache (s : State) : (s.serveBacklog).cache = s.cache := rfl
@[simp] theorem State.serveBacklog_miss (s : State) : (s.serveBacklog).miss = (s.miss.serve s.miss.members.length).1 := rfl
@[simp] theorem State.serveBacklog_resv (s : State) : (s.serveBacklog).resv = s.resv := rfl
@[simp] theorem State.serveBacklog_sys (s : State) : (s.serveBacklog).sys = s.sys := rfl
@[simp] theorem State.serveBacklog_log (s : State) : (s.serveBacklog).log = s.log := rfl
@[simp] theorem State.serveBacklog_cmd (s : State) : (s.serveBacklog).cmd = s.cmd := rfl
@[simp] theorem State.serveBacklog_ev (s : State) : (s.serveBacklog).ev = if (s.miss.serve s.miss.members.length).2 then s.ev.raise .missReport else s.ev := rfl
@[simp] theorem State.serveBacklog_epoch (s : State) : (s.serveBacklog).epoch = s.epoch := rfl
@[simp] theorem State.serveBacklog_timer (s : State) : (s.serveBacklog).timer = s.timer := rfl
@[simp] theorem State.serveBacklog_config (s : State) : (s.serveBacklog).config = s.config := rfl
@[simp] theorem State.serveBacklog_power (s : State) : (s.serveBacklog).power = s.power := rfl
@[simp] theorem State.serveBacklog_out (s : State) : (s.serveBacklog).out = s.out := rfl
@[simp] theorem State.serveBacklog_pending (s : State) : (s.serveBacklog).pending = s.pending := rfl

/-! ### `park` -/

@[simp] theorem State.park_ports (s : State) (r : MissItem) : (s.park r).ports = s.ports := rfl
@[simp] theorem State.park_admSeq (s : State) (r : MissItem) : (s.park r).admSeq = s.admSeq := rfl
@[simp] theorem State.park_admOrder (s : State) (r : MissItem) : (s.park r).admOrder = s.admOrder := rfl
@[simp] theorem State.park_dp (s : State) (r : MissItem) : (s.park r).dp = s.dp := rfl
@[simp] theorem State.park_contexts (s : State) (r : MissItem) : (s.park r).contexts = s.contexts := rfl
@[simp] theorem State.park_bindings (s : State) (r : MissItem) : (s.park r).bindings = s.bindings := rfl
@[simp] theorem State.park_cache (s : State) (r : MissItem) : (s.park r).cache = s.cache := rfl
@[simp] theorem State.park_miss (s : State) (r : MissItem) : (s.park r).miss = (s.miss.park r).1 := rfl
@[simp] theorem State.park_resv (s : State) (r : MissItem) : (s.park r).resv = s.resv := rfl
@[simp] theorem State.park_sys (s : State) (r : MissItem) : (s.park r).sys = s.sys := rfl
@[simp] theorem State.park_log (s : State) (r : MissItem) : (s.park r).log = s.log := rfl
@[simp] theorem State.park_cmd (s : State) (r : MissItem) : (s.park r).cmd = s.cmd := rfl
@[simp] theorem State.park_ev (s : State) (r : MissItem) : (s.park r).ev = if (s.miss.park r).2 then s.ev.raise .missReport else s.ev := rfl
@[simp] theorem State.park_epoch (s : State) (r : MissItem) : (s.park r).epoch = s.epoch := rfl
@[simp] theorem State.park_timer (s : State) (r : MissItem) : (s.park r).timer = s.timer := rfl
@[simp] theorem State.park_config (s : State) (r : MissItem) : (s.park r).config = s.config := rfl
@[simp] theorem State.park_power (s : State) (r : MissItem) : (s.park r).power = s.power := rfl
@[simp] theorem State.park_out (s : State) (r : MissItem) : (s.park r).out = s.out := rfl
@[simp] theorem State.park_pending (s : State) (r : MissItem) : (s.park r).pending = s.pending := rfl

/-! ### `releaseKey` -/

@[simp] theorem State.releaseKey_ports (s : State) (k : Key) : (s.releaseKey k).ports = s.ports := rfl
@[simp] theorem State.releaseKey_admSeq (s : State) (k : Key) : (s.releaseKey k).admSeq = s.admSeq := rfl
@[simp] theorem State.releaseKey_admOrder (s : State) (k : Key) : (s.releaseKey k).admOrder = s.admOrder := rfl
@[simp] theorem State.releaseKey_dp (s : State) (k : Key) : (s.releaseKey k).dp = { s.dp with replay := s.dp.replay ++ (s.miss.parked.filter (·.under k)).map (·.item) } := rfl
@[simp] theorem State.releaseKey_contexts (s : State) (k : Key) : (s.releaseKey k).contexts = s.contexts := rfl
@[simp] theorem State.releaseKey_bindings (s : State) (k : Key) : (s.releaseKey k).bindings = s.bindings := rfl
@[simp] theorem State.releaseKey_cache (s : State) (k : Key) : (s.releaseKey k).cache = s.cache := rfl
@[simp] theorem State.releaseKey_miss (s : State) (k : Key) : (s.releaseKey k).miss = s.miss.remove (·.under k) := rfl
@[simp] theorem State.releaseKey_resv (s : State) (k : Key) : (s.releaseKey k).resv = s.resv := rfl
@[simp] theorem State.releaseKey_sys (s : State) (k : Key) : (s.releaseKey k).sys = s.sys := rfl
@[simp] theorem State.releaseKey_log (s : State) (k : Key) : (s.releaseKey k).log = s.log := rfl
@[simp] theorem State.releaseKey_cmd (s : State) (k : Key) : (s.releaseKey k).cmd = s.cmd := rfl
@[simp] theorem State.releaseKey_ev (s : State) (k : Key) : (s.releaseKey k).ev = s.ev := rfl
@[simp] theorem State.releaseKey_epoch (s : State) (k : Key) : (s.releaseKey k).epoch = s.epoch := rfl
@[simp] theorem State.releaseKey_timer (s : State) (k : Key) : (s.releaseKey k).timer = s.timer := rfl
@[simp] theorem State.releaseKey_config (s : State) (k : Key) : (s.releaseKey k).config = s.config := rfl
@[simp] theorem State.releaseKey_power (s : State) (k : Key) : (s.releaseKey k).power = s.power := rfl
@[simp] theorem State.releaseKey_out (s : State) (k : Key) : (s.releaseKey k).out = s.out := rfl
@[simp] theorem State.releaseKey_pending (s : State) (k : Key) : (s.releaseKey k).pending = s.pending := rfl

/-! ### `writeClears` -/

@[simp] theorem State.writeClears_ports (s : State) (r : Request) (b : BitVec 4) (a : Word) : (s.writeClears r b a).ports = s.ports := rfl
@[simp] theorem State.writeClears_admSeq (s : State) (r : Request) (b : BitVec 4) (a : Word) : (s.writeClears r b a).admSeq = s.admSeq := rfl
@[simp] theorem State.writeClears_admOrder (s : State) (r : Request) (b : BitVec 4) (a : Word) : (s.writeClears r b a).admOrder = s.admOrder := rfl
@[simp] theorem State.writeClears_dp (s : State) (r : Request) (b : BitVec 4) (a : Word) : (s.writeClears r b a).dp = s.dp := rfl
@[simp] theorem State.writeClears_contexts (s : State) (r : Request) (b : BitVec 4) (a : Word) : (s.writeClears r b a).contexts = s.contexts := rfl
@[simp] theorem State.writeClears_bindings (s : State) (r : Request) (b : BitVec 4) (a : Word) : (s.writeClears r b a).bindings = s.bindings := rfl
@[simp] theorem State.writeClears_cache (s : State) (r : Request) (b : BitVec 4) (a : Word) : (s.writeClears r b a).cache = s.cache := rfl
@[simp] theorem State.writeClears_miss (s : State) (r : Request) (b : BitVec 4) (a : Word) : (s.writeClears r b a).miss = s.miss := rfl
@[simp] theorem State.writeClears_sys (s : State) (r : Request) (b : BitVec 4) (a : Word) : (s.writeClears r b a).sys = s.sys := rfl
@[simp] theorem State.writeClears_log (s : State) (r : Request) (b : BitVec 4) (a : Word) : (s.writeClears r b a).log = s.log := rfl
@[simp] theorem State.writeClears_cmd (s : State) (r : Request) (b : BitVec 4) (a : Word) : (s.writeClears r b a).cmd = s.cmd := rfl
@[simp] theorem State.writeClears_ev (s : State) (r : Request) (b : BitVec 4) (a : Word) : (s.writeClears r b a).ev = s.ev := rfl
@[simp] theorem State.writeClears_epoch (s : State) (r : Request) (b : BitVec 4) (a : Word) : (s.writeClears r b a).epoch = s.epoch := rfl
@[simp] theorem State.writeClears_timer (s : State) (r : Request) (b : BitVec 4) (a : Word) : (s.writeClears r b a).timer = s.timer := rfl
@[simp] theorem State.writeClears_config (s : State) (r : Request) (b : BitVec 4) (a : Word) : (s.writeClears r b a).config = s.config := rfl
@[simp] theorem State.writeClears_power (s : State) (r : Request) (b : BitVec 4) (a : Word) : (s.writeClears r b a).power = s.power := rfl
@[simp] theorem State.writeClears_out (s : State) (r : Request) (b : BitVec 4) (a : Word) : (s.writeClears r b a).out = s.out := rfl
@[simp] theorem State.writeClears_pending (s : State) (r : Request) (b : BitVec 4) (a : Word) : (s.writeClears r b a).pending = s.pending := rfl

/-! ### `reserve` -/

@[simp] theorem State.reserve_ports (s : State) (n : AgentId) (b : BitVec 4) (a : Word) : (s.reserve n b a).ports = s.ports := rfl
@[simp] theorem State.reserve_admSeq (s : State) (n : AgentId) (b : BitVec 4) (a : Word) : (s.reserve n b a).admSeq = s.admSeq := rfl
@[simp] theorem State.reserve_admOrder (s : State) (n : AgentId) (b : BitVec 4) (a : Word) : (s.reserve n b a).admOrder = s.admOrder := rfl
@[simp] theorem State.reserve_dp (s : State) (n : AgentId) (b : BitVec 4) (a : Word) : (s.reserve n b a).dp = s.dp := rfl
@[simp] theorem State.reserve_contexts (s : State) (n : AgentId) (b : BitVec 4) (a : Word) : (s.reserve n b a).contexts = s.contexts := rfl
@[simp] theorem State.reserve_bindings (s : State) (n : AgentId) (b : BitVec 4) (a : Word) : (s.reserve n b a).bindings = s.bindings := rfl
@[simp] theorem State.reserve_cache (s : State) (n : AgentId) (b : BitVec 4) (a : Word) : (s.reserve n b a).cache = s.cache := rfl
@[simp] theorem State.reserve_miss (s : State) (n : AgentId) (b : BitVec 4) (a : Word) : (s.reserve n b a).miss = s.miss := rfl
@[simp] theorem State.reserve_resv (s : State) (n : AgentId) (b : BitVec 4) (a : Word) : (s.reserve n b a).resv = s.resv.set n { valid := true, bank := b, line := lineOf a, age := 0 } := rfl
@[simp] theorem State.reserve_sys (s : State) (n : AgentId) (b : BitVec 4) (a : Word) : (s.reserve n b a).sys = s.sys := rfl
@[simp] theorem State.reserve_log (s : State) (n : AgentId) (b : BitVec 4) (a : Word) : (s.reserve n b a).log = s.log := rfl
@[simp] theorem State.reserve_cmd (s : State) (n : AgentId) (b : BitVec 4) (a : Word) : (s.reserve n b a).cmd = s.cmd := rfl
@[simp] theorem State.reserve_ev (s : State) (n : AgentId) (b : BitVec 4) (a : Word) : (s.reserve n b a).ev = s.ev := rfl
@[simp] theorem State.reserve_epoch (s : State) (n : AgentId) (b : BitVec 4) (a : Word) : (s.reserve n b a).epoch = s.epoch := rfl
@[simp] theorem State.reserve_timer (s : State) (n : AgentId) (b : BitVec 4) (a : Word) : (s.reserve n b a).timer = s.timer := rfl
@[simp] theorem State.reserve_config (s : State) (n : AgentId) (b : BitVec 4) (a : Word) : (s.reserve n b a).config = s.config := rfl
@[simp] theorem State.reserve_power (s : State) (n : AgentId) (b : BitVec 4) (a : Word) : (s.reserve n b a).power = s.power := rfl
@[simp] theorem State.reserve_out (s : State) (n : AgentId) (b : BitVec 4) (a : Word) : (s.reserve n b a).out = s.out := rfl
@[simp] theorem State.reserve_pending (s : State) (n : AgentId) (b : BitVec 4) (a : Word) : (s.reserve n b a).pending = s.pending := rfl

/-! ### `signalMailbox` -/

@[simp] theorem State.signalMailbox_ports (s : State) (n : AgentId) (c : Byte) : (s.signalMailbox n c).ports = s.ports := rfl
@[simp] theorem State.signalMailbox_admSeq (s : State) (n : AgentId) (c : Byte) : (s.signalMailbox n c).admSeq = s.admSeq := rfl
@[simp] theorem State.signalMailbox_admOrder (s : State) (n : AgentId) (c : Byte) : (s.signalMailbox n c).admOrder = s.admOrder := rfl
@[simp] theorem State.signalMailbox_dp (s : State) (n : AgentId) (c : Byte) : (s.signalMailbox n c).dp = s.dp := rfl
@[simp] theorem State.signalMailbox_contexts (s : State) (n : AgentId) (c : Byte) : (s.signalMailbox n c).contexts = s.contexts := rfl
@[simp] theorem State.signalMailbox_bindings (s : State) (n : AgentId) (c : Byte) : (s.signalMailbox n c).bindings = s.bindings := rfl
@[simp] theorem State.signalMailbox_cache (s : State) (n : AgentId) (c : Byte) : (s.signalMailbox n c).cache = s.cache := rfl
@[simp] theorem State.signalMailbox_miss (s : State) (n : AgentId) (c : Byte) : (s.signalMailbox n c).miss = s.miss := rfl
@[simp] theorem State.signalMailbox_resv (s : State) (n : AgentId) (c : Byte) : (s.signalMailbox n c).resv = s.resv := rfl
@[simp] theorem State.signalMailbox_sys (s : State) (n : AgentId) (c : Byte) : (s.signalMailbox n c).sys = s.sys := rfl
@[simp] theorem State.signalMailbox_log (s : State) (n : AgentId) (c : Byte) : (s.signalMailbox n c).log = s.log := rfl
@[simp] theorem State.signalMailbox_cmd (s : State) (n : AgentId) (c : Byte) : (s.signalMailbox n c).cmd = s.cmd := rfl
@[simp] theorem State.signalMailbox_epoch (s : State) (n : AgentId) (c : Byte) : (s.signalMailbox n c).epoch = s.epoch := rfl
@[simp] theorem State.signalMailbox_timer (s : State) (n : AgentId) (c : Byte) : (s.signalMailbox n c).timer = s.timer := rfl
@[simp] theorem State.signalMailbox_config (s : State) (n : AgentId) (c : Byte) : (s.signalMailbox n c).config = s.config := rfl
@[simp] theorem State.signalMailbox_power (s : State) (n : AgentId) (c : Byte) : (s.signalMailbox n c).power = s.power := rfl
@[simp] theorem State.signalMailbox_out (s : State) (n : AgentId) (c : Byte) : (s.signalMailbox n c).out = s.out := rfl
@[simp] theorem State.signalMailbox_pending (s : State) (n : AgentId) (c : Byte) : (s.signalMailbox n c).pending = s.pending := rfl

/-! ### `setContext` -/

@[simp] theorem State.setContext_ports (s : State) (c : ContextId) (f : Context → Context) : (s.setContext c f).ports = s.ports := rfl
@[simp] theorem State.setContext_admSeq (s : State) (c : ContextId) (f : Context → Context) : (s.setContext c f).admSeq = s.admSeq := rfl
@[simp] theorem State.setContext_admOrder (s : State) (c : ContextId) (f : Context → Context) : (s.setContext c f).admOrder = s.admOrder := rfl
@[simp] theorem State.setContext_dp (s : State) (c : ContextId) (f : Context → Context) : (s.setContext c f).dp = s.dp := rfl
@[simp] theorem State.setContext_contexts (s : State) (c : ContextId) (f : Context → Context) : (s.setContext c f).contexts = s.contexts.set c (f s.contexts[c]) := rfl
@[simp] theorem State.setContext_bindings (s : State) (c : ContextId) (f : Context → Context) : (s.setContext c f).bindings = s.bindings := rfl
@[simp] theorem State.setContext_cache (s : State) (c : ContextId) (f : Context → Context) : (s.setContext c f).cache = s.cache := rfl
@[simp] theorem State.setContext_miss (s : State) (c : ContextId) (f : Context → Context) : (s.setContext c f).miss = s.miss := rfl
@[simp] theorem State.setContext_resv (s : State) (c : ContextId) (f : Context → Context) : (s.setContext c f).resv = s.resv := rfl
@[simp] theorem State.setContext_sys (s : State) (c : ContextId) (f : Context → Context) : (s.setContext c f).sys = s.sys := rfl
@[simp] theorem State.setContext_log (s : State) (c : ContextId) (f : Context → Context) : (s.setContext c f).log = s.log := rfl
@[simp] theorem State.setContext_cmd (s : State) (c : ContextId) (f : Context → Context) : (s.setContext c f).cmd = s.cmd := rfl
@[simp] theorem State.setContext_ev (s : State) (c : ContextId) (f : Context → Context) : (s.setContext c f).ev = s.ev := rfl
@[simp] theorem State.setContext_epoch (s : State) (c : ContextId) (f : Context → Context) : (s.setContext c f).epoch = s.epoch := rfl
@[simp] theorem State.setContext_timer (s : State) (c : ContextId) (f : Context → Context) : (s.setContext c f).timer = s.timer := rfl
@[simp] theorem State.setContext_config (s : State) (c : ContextId) (f : Context → Context) : (s.setContext c f).config = s.config := rfl
@[simp] theorem State.setContext_power (s : State) (c : ContextId) (f : Context → Context) : (s.setContext c f).power = s.power := rfl
@[simp] theorem State.setContext_out (s : State) (c : ContextId) (f : Context → Context) : (s.setContext c f).out = s.out := rfl
@[simp] theorem State.setContext_pending (s : State) (c : ContextId) (f : Context → Context) : (s.setContext c f).pending = s.pending := rfl

/-! ### `setEntry` -/

@[simp] theorem State.setEntry_ports (s : State) (i : EntryId) (e : Entry) : (s.setEntry i e).ports = s.ports := rfl
@[simp] theorem State.setEntry_admSeq (s : State) (i : EntryId) (e : Entry) : (s.setEntry i e).admSeq = s.admSeq := rfl
@[simp] theorem State.setEntry_admOrder (s : State) (i : EntryId) (e : Entry) : (s.setEntry i e).admOrder = s.admOrder := rfl
@[simp] theorem State.setEntry_dp (s : State) (i : EntryId) (e : Entry) : (s.setEntry i e).dp = s.dp := rfl
@[simp] theorem State.setEntry_contexts (s : State) (i : EntryId) (e : Entry) : (s.setEntry i e).contexts = s.contexts := rfl
@[simp] theorem State.setEntry_bindings (s : State) (i : EntryId) (e : Entry) : (s.setEntry i e).bindings = s.bindings := rfl
@[simp] theorem State.setEntry_cache (s : State) (i : EntryId) (e : Entry) : (s.setEntry i e).cache = { s.cache with entries := s.cache.entries.set i e } := rfl
@[simp] theorem State.setEntry_miss (s : State) (i : EntryId) (e : Entry) : (s.setEntry i e).miss = s.miss := rfl
@[simp] theorem State.setEntry_resv (s : State) (i : EntryId) (e : Entry) : (s.setEntry i e).resv = s.resv := rfl
@[simp] theorem State.setEntry_sys (s : State) (i : EntryId) (e : Entry) : (s.setEntry i e).sys = s.sys := rfl
@[simp] theorem State.setEntry_log (s : State) (i : EntryId) (e : Entry) : (s.setEntry i e).log = s.log := rfl
@[simp] theorem State.setEntry_cmd (s : State) (i : EntryId) (e : Entry) : (s.setEntry i e).cmd = s.cmd := rfl
@[simp] theorem State.setEntry_ev (s : State) (i : EntryId) (e : Entry) : (s.setEntry i e).ev = s.ev := rfl
@[simp] theorem State.setEntry_epoch (s : State) (i : EntryId) (e : Entry) : (s.setEntry i e).epoch = s.epoch := rfl
@[simp] theorem State.setEntry_timer (s : State) (i : EntryId) (e : Entry) : (s.setEntry i e).timer = s.timer := rfl
@[simp] theorem State.setEntry_config (s : State) (i : EntryId) (e : Entry) : (s.setEntry i e).config = s.config := rfl
@[simp] theorem State.setEntry_power (s : State) (i : EntryId) (e : Entry) : (s.setEntry i e).power = s.power := rfl
@[simp] theorem State.setEntry_out (s : State) (i : EntryId) (e : Entry) : (s.setEntry i e).out = s.out := rfl
@[simp] theorem State.setEntry_pending (s : State) (i : EntryId) (e : Entry) : (s.setEntry i e).pending = s.pending := rfl

/-! ### `freeGateway` -/

@[simp] theorem State.freeGateway_ports (s : State) (g : GatewayTag) : (s.freeGateway g).ports = s.ports := rfl
@[simp] theorem State.freeGateway_admSeq (s : State) (g : GatewayTag) : (s.freeGateway g).admSeq = s.admSeq := rfl
@[simp] theorem State.freeGateway_admOrder (s : State) (g : GatewayTag) : (s.freeGateway g).admOrder = s.admOrder := rfl
@[simp] theorem State.freeGateway_dp (s : State) (g : GatewayTag) : (s.freeGateway g).dp = s.dp := rfl
@[simp] theorem State.freeGateway_contexts (s : State) (g : GatewayTag) : (s.freeGateway g).contexts = s.contexts := rfl
@[simp] theorem State.freeGateway_bindings (s : State) (g : GatewayTag) : (s.freeGateway g).bindings = s.bindings := rfl
@[simp] theorem State.freeGateway_cache (s : State) (g : GatewayTag) : (s.freeGateway g).cache = s.cache := rfl
@[simp] theorem State.freeGateway_miss (s : State) (g : GatewayTag) : (s.freeGateway g).miss = s.miss := rfl
@[simp] theorem State.freeGateway_resv (s : State) (g : GatewayTag) : (s.freeGateway g).resv = s.resv := rfl
@[simp] theorem State.freeGateway_sys (s : State) (g : GatewayTag) : (s.freeGateway g).sys = { s.sys with table := s.sys.table.set g none } := rfl
@[simp] theorem State.freeGateway_log (s : State) (g : GatewayTag) : (s.freeGateway g).log = s.log := rfl
@[simp] theorem State.freeGateway_cmd (s : State) (g : GatewayTag) : (s.freeGateway g).cmd = s.cmd := rfl
@[simp] theorem State.freeGateway_ev (s : State) (g : GatewayTag) : (s.freeGateway g).ev = s.ev := rfl
@[simp] theorem State.freeGateway_epoch (s : State) (g : GatewayTag) : (s.freeGateway g).epoch = s.epoch := rfl
@[simp] theorem State.freeGateway_timer (s : State) (g : GatewayTag) : (s.freeGateway g).timer = s.timer := rfl
@[simp] theorem State.freeGateway_config (s : State) (g : GatewayTag) : (s.freeGateway g).config = s.config := rfl
@[simp] theorem State.freeGateway_power (s : State) (g : GatewayTag) : (s.freeGateway g).power = s.power := rfl
@[simp] theorem State.freeGateway_out (s : State) (g : GatewayTag) : (s.freeGateway g).out = s.out := rfl
@[simp] theorem State.freeGateway_pending (s : State) (g : GatewayTag) : (s.freeGateway g).pending = s.pending := rfl

/-! ### `tick` -/

@[simp] theorem State.tick_ports (s : State) : (s.tick).ports = s.ports := rfl
@[simp] theorem State.tick_admSeq (s : State) : (s.tick).admSeq = s.admSeq := rfl
@[simp] theorem State.tick_admOrder (s : State) : (s.tick).admOrder = s.admOrder := rfl
@[simp] theorem State.tick_dp (s : State) : (s.tick).dp = s.dp := rfl
@[simp] theorem State.tick_contexts (s : State) : (s.tick).contexts = s.contexts := rfl
@[simp] theorem State.tick_bindings (s : State) : (s.tick).bindings = s.bindings := rfl
@[simp] theorem State.tick_cache (s : State) : (s.tick).cache = s.cache := rfl
@[simp] theorem State.tick_miss (s : State) : (s.tick).miss = s.miss := rfl
@[simp] theorem State.tick_resv (s : State) : (s.tick).resv = s.resv := rfl
@[simp] theorem State.tick_sys (s : State) : (s.tick).sys = s.sys := rfl
@[simp] theorem State.tick_log (s : State) : (s.tick).log = s.log := rfl
@[simp] theorem State.tick_cmd (s : State) : (s.tick).cmd = s.cmd := rfl
@[simp] theorem State.tick_ev (s : State) : (s.tick).ev = s.ev.tickRaise s.timer := rfl
@[simp] theorem State.tick_epoch (s : State) : (s.tick).epoch = s.epoch := rfl
@[simp] theorem State.tick_timer (s : State) : (s.tick).timer = s.timer.tick := rfl
@[simp] theorem State.tick_config (s : State) : (s.tick).config = s.config := rfl
@[simp] theorem State.tick_power (s : State) : (s.tick).power = s.power := rfl
@[simp] theorem State.tick_out (s : State) : (s.tick).out = s.out := rfl
@[simp] theorem State.tick_pending (s : State) : (s.tick).pending = s.pending := rfl

/-! ### `ageReservations` -/

@[simp] theorem State.ageReservations_ports (s : State) : (s.ageReservations).ports = s.ports := rfl
@[simp] theorem State.ageReservations_admSeq (s : State) : (s.ageReservations).admSeq = s.admSeq := rfl
@[simp] theorem State.ageReservations_admOrder (s : State) : (s.ageReservations).admOrder = s.admOrder := rfl
@[simp] theorem State.ageReservations_dp (s : State) : (s.ageReservations).dp = s.dp := rfl
@[simp] theorem State.ageReservations_contexts (s : State) : (s.ageReservations).contexts = s.contexts := rfl
@[simp] theorem State.ageReservations_bindings (s : State) : (s.ageReservations).bindings = s.bindings := rfl
@[simp] theorem State.ageReservations_cache (s : State) : (s.ageReservations).cache = s.cache := rfl
@[simp] theorem State.ageReservations_miss (s : State) : (s.ageReservations).miss = s.miss := rfl
@[simp] theorem State.ageReservations_resv (s : State) : (s.ageReservations).resv = mapIdx (fun _ r => r.older s.config.lifetime) s.resv := rfl
@[simp] theorem State.ageReservations_sys (s : State) : (s.ageReservations).sys = s.sys := rfl
@[simp] theorem State.ageReservations_log (s : State) : (s.ageReservations).log = s.log := rfl
@[simp] theorem State.ageReservations_cmd (s : State) : (s.ageReservations).cmd = s.cmd := rfl
@[simp] theorem State.ageReservations_ev (s : State) : (s.ageReservations).ev = s.ev := rfl
@[simp] theorem State.ageReservations_epoch (s : State) : (s.ageReservations).epoch = s.epoch := rfl
@[simp] theorem State.ageReservations_timer (s : State) : (s.ageReservations).timer = s.timer := rfl
@[simp] theorem State.ageReservations_config (s : State) : (s.ageReservations).config = s.config := rfl
@[simp] theorem State.ageReservations_power (s : State) : (s.ageReservations).power = s.power := rfl
@[simp] theorem State.ageReservations_out (s : State) : (s.ageReservations).out = s.out := rfl
@[simp] theorem State.ageReservations_pending (s : State) : (s.ageReservations).pending = s.pending := rfl

/-! ### `dropHead` -/

@[simp] theorem State.dropHead_ports (s : State) (n : AgentId) (rest : List Item) : (s.dropHead n rest).ports = s.ports.set n { s.ports[n] with line := rest } := rfl
@[simp] theorem State.dropHead_admSeq (s : State) (n : AgentId) (rest : List Item) : (s.dropHead n rest).admSeq = s.admSeq := rfl
@[simp] theorem State.dropHead_admOrder (s : State) (n : AgentId) (rest : List Item) : (s.dropHead n rest).admOrder = s.admOrder := rfl
@[simp] theorem State.dropHead_dp (s : State) (n : AgentId) (rest : List Item) : (s.dropHead n rest).dp = { s.dp with pointer := n + 1 } := rfl
@[simp] theorem State.dropHead_contexts (s : State) (n : AgentId) (rest : List Item) : (s.dropHead n rest).contexts = s.contexts := rfl
@[simp] theorem State.dropHead_bindings (s : State) (n : AgentId) (rest : List Item) : (s.dropHead n rest).bindings = s.bindings := rfl
@[simp] theorem State.dropHead_cache (s : State) (n : AgentId) (rest : List Item) : (s.dropHead n rest).cache = s.cache := rfl
@[simp] theorem State.dropHead_miss (s : State) (n : AgentId) (rest : List Item) : (s.dropHead n rest).miss = s.miss := rfl
@[simp] theorem State.dropHead_resv (s : State) (n : AgentId) (rest : List Item) : (s.dropHead n rest).resv = s.resv := rfl
@[simp] theorem State.dropHead_sys (s : State) (n : AgentId) (rest : List Item) : (s.dropHead n rest).sys = s.sys := rfl
@[simp] theorem State.dropHead_log (s : State) (n : AgentId) (rest : List Item) : (s.dropHead n rest).log = s.log := rfl
@[simp] theorem State.dropHead_cmd (s : State) (n : AgentId) (rest : List Item) : (s.dropHead n rest).cmd = s.cmd := rfl
@[simp] theorem State.dropHead_ev (s : State) (n : AgentId) (rest : List Item) : (s.dropHead n rest).ev = s.ev := rfl
@[simp] theorem State.dropHead_epoch (s : State) (n : AgentId) (rest : List Item) : (s.dropHead n rest).epoch = s.epoch := rfl
@[simp] theorem State.dropHead_timer (s : State) (n : AgentId) (rest : List Item) : (s.dropHead n rest).timer = s.timer := rfl
@[simp] theorem State.dropHead_config (s : State) (n : AgentId) (rest : List Item) : (s.dropHead n rest).config = s.config := rfl
@[simp] theorem State.dropHead_power (s : State) (n : AgentId) (rest : List Item) : (s.dropHead n rest).power = s.power := rfl
@[simp] theorem State.dropHead_out (s : State) (n : AgentId) (rest : List Item) : (s.dropHead n rest).out = s.out := rfl
@[simp] theorem State.dropHead_pending (s : State) (n : AgentId) (rest : List Item) : (s.dropHead n rest).pending = s.pending := rfl

/-! ### `addResult` -/

@[simp] theorem State.addResult_ports (s : State) (k : Byte) (st : Status) (d0 d1 : Word) : (s.addResult k st d0 d1).ports = s.ports := rfl
@[simp] theorem State.addResult_admSeq (s : State) (k : Byte) (st : Status) (d0 d1 : Word) : (s.addResult k st d0 d1).admSeq = s.admSeq := rfl
@[simp] theorem State.addResult_admOrder (s : State) (k : Byte) (st : Status) (d0 d1 : Word) : (s.addResult k st d0 d1).admOrder = s.admOrder := rfl
@[simp] theorem State.addResult_dp (s : State) (k : Byte) (st : Status) (d0 d1 : Word) : (s.addResult k st d0 d1).dp = s.dp := rfl
@[simp] theorem State.addResult_contexts (s : State) (k : Byte) (st : Status) (d0 d1 : Word) : (s.addResult k st d0 d1).contexts = s.contexts := rfl
@[simp] theorem State.addResult_bindings (s : State) (k : Byte) (st : Status) (d0 d1 : Word) : (s.addResult k st d0 d1).bindings = s.bindings := rfl
@[simp] theorem State.addResult_cache (s : State) (k : Byte) (st : Status) (d0 d1 : Word) : (s.addResult k st d0 d1).cache = s.cache := rfl
@[simp] theorem State.addResult_miss (s : State) (k : Byte) (st : Status) (d0 d1 : Word) : (s.addResult k st d0 d1).miss = s.miss := rfl
@[simp] theorem State.addResult_resv (s : State) (k : Byte) (st : Status) (d0 d1 : Word) : (s.addResult k st d0 d1).resv = s.resv := rfl
@[simp] theorem State.addResult_sys (s : State) (k : Byte) (st : Status) (d0 d1 : Word) : (s.addResult k st d0 d1).sys = s.sys := rfl
@[simp] theorem State.addResult_log (s : State) (k : Byte) (st : Status) (d0 d1 : Word) : (s.addResult k st d0 d1).log = s.log := rfl
@[simp] theorem State.addResult_ev (s : State) (k : Byte) (st : Status) (d0 d1 : Word) : (s.addResult k st d0 d1).ev = s.ev.raise .commandDone := rfl
@[simp] theorem State.addResult_epoch (s : State) (k : Byte) (st : Status) (d0 d1 : Word) : (s.addResult k st d0 d1).epoch = s.epoch := rfl
@[simp] theorem State.addResult_timer (s : State) (k : Byte) (st : Status) (d0 d1 : Word) : (s.addResult k st d0 d1).timer = s.timer := rfl
@[simp] theorem State.addResult_config (s : State) (k : Byte) (st : Status) (d0 d1 : Word) : (s.addResult k st d0 d1).config = s.config := rfl
@[simp] theorem State.addResult_power (s : State) (k : Byte) (st : Status) (d0 d1 : Word) : (s.addResult k st d0 d1).power = s.power := rfl
@[simp] theorem State.addResult_out (s : State) (k : Byte) (st : Status) (d0 d1 : Word) : (s.addResult k st d0 d1).out = s.out := rfl
@[simp] theorem State.addResult_pending (s : State) (k : Byte) (st : Status) (d0 d1 : Word) : (s.addResult k st d0 d1).pending = s.pending := rfl

/-! ### `dropEpoch` -/

@[simp] theorem State.dropEpoch_ports (s : State) : (s.dropEpoch).ports = s.ports := rfl
@[simp] theorem State.dropEpoch_admSeq (s : State) : (s.dropEpoch).admSeq = s.admSeq := rfl
@[simp] theorem State.dropEpoch_admOrder (s : State) : (s.dropEpoch).admOrder = s.admOrder := rfl
@[simp] theorem State.dropEpoch_dp (s : State) : (s.dropEpoch).dp = { s.dp with epoch := none } := rfl
@[simp] theorem State.dropEpoch_contexts (s : State) : (s.dropEpoch).contexts = s.contexts := rfl
@[simp] theorem State.dropEpoch_bindings (s : State) : (s.dropEpoch).bindings = s.bindings := rfl
@[simp] theorem State.dropEpoch_cache (s : State) : (s.dropEpoch).cache = s.cache := rfl
@[simp] theorem State.dropEpoch_miss (s : State) : (s.dropEpoch).miss = s.miss := rfl
@[simp] theorem State.dropEpoch_resv (s : State) : (s.dropEpoch).resv = s.resv := rfl
@[simp] theorem State.dropEpoch_sys (s : State) : (s.dropEpoch).sys = s.sys := rfl
@[simp] theorem State.dropEpoch_log (s : State) : (s.dropEpoch).log = s.log := rfl
@[simp] theorem State.dropEpoch_cmd (s : State) : (s.dropEpoch).cmd = s.cmd := rfl
@[simp] theorem State.dropEpoch_ev (s : State) : (s.dropEpoch).ev = s.ev := rfl
@[simp] theorem State.dropEpoch_epoch (s : State) : (s.dropEpoch).epoch = s.epoch := rfl
@[simp] theorem State.dropEpoch_timer (s : State) : (s.dropEpoch).timer = s.timer := rfl
@[simp] theorem State.dropEpoch_config (s : State) : (s.dropEpoch).config = s.config := rfl
@[simp] theorem State.dropEpoch_power (s : State) : (s.dropEpoch).power = s.power := rfl
@[simp] theorem State.dropEpoch_out (s : State) : (s.dropEpoch).out = s.out := rfl
@[simp] theorem State.dropEpoch_pending (s : State) : (s.dropEpoch).pending = s.pending := rfl

/-! ### `completeCommand` -/

@[simp] theorem State.completeCommand_ports (r : CmdResult) (k : Byte) : (State.completeCommand r k).ports = r.state.ports := rfl
@[simp] theorem State.completeCommand_admSeq (r : CmdResult) (k : Byte) : (State.completeCommand r k).admSeq = r.state.admSeq := rfl
@[simp] theorem State.completeCommand_admOrder (r : CmdResult) (k : Byte) : (State.completeCommand r k).admOrder = r.state.admOrder := rfl
@[simp] theorem State.completeCommand_dp (r : CmdResult) (k : Byte) : (State.completeCommand r k).dp = r.state.dp := rfl
@[simp] theorem State.completeCommand_contexts (r : CmdResult) (k : Byte) : (State.completeCommand r k).contexts = r.state.contexts := rfl
@[simp] theorem State.completeCommand_bindings (r : CmdResult) (k : Byte) : (State.completeCommand r k).bindings = r.state.bindings := rfl
@[simp] theorem State.completeCommand_cache (r : CmdResult) (k : Byte) : (State.completeCommand r k).cache = r.state.cache := rfl
@[simp] theorem State.completeCommand_miss (r : CmdResult) (k : Byte) : (State.completeCommand r k).miss = r.state.miss := rfl
@[simp] theorem State.completeCommand_resv (r : CmdResult) (k : Byte) : (State.completeCommand r k).resv = r.state.resv := rfl
@[simp] theorem State.completeCommand_sys (r : CmdResult) (k : Byte) : (State.completeCommand r k).sys = r.state.sys := rfl
@[simp] theorem State.completeCommand_log (r : CmdResult) (k : Byte) : (State.completeCommand r k).log = r.state.log := rfl
@[simp] theorem State.completeCommand_cmd (r : CmdResult) (k : Byte) : (State.completeCommand r k).cmd = { r.state.cmd with
    fifo := r.state.cmd.fifo.tail
    results := r.state.cmd.results ++ [{ seq := r.state.cmd.seq, kind := k, status := r.status, data0 := r.data0, data1 := r.data1 }]
    seq := r.state.cmd.seq + 1 } := rfl
@[simp] theorem State.completeCommand_ev (r : CmdResult) (k : Byte) : (State.completeCommand r k).ev = r.state.ev.raise .commandDone := rfl
@[simp] theorem State.completeCommand_epoch (r : CmdResult) (k : Byte) : (State.completeCommand r k).epoch = r.state.epoch := rfl
@[simp] theorem State.completeCommand_timer (r : CmdResult) (k : Byte) : (State.completeCommand r k).timer = r.state.timer := rfl
@[simp] theorem State.completeCommand_config (r : CmdResult) (k : Byte) : (State.completeCommand r k).config = r.state.config := rfl
@[simp] theorem State.completeCommand_power (r : CmdResult) (k : Byte) : (State.completeCommand r k).power = r.state.power := rfl
@[simp] theorem State.completeCommand_out (r : CmdResult) (k : Byte) : (State.completeCommand r k).out = r.state.out := rfl
@[simp] theorem State.completeCommand_pending (r : CmdResult) (k : Byte) : (State.completeCommand r k).pending = r.state.pending := rfl

/-! ### `purgeWhere` -/

@[simp] theorem State.purgeWhere_ports (s : State) (p : Entry → Bool) : (s.purgeWhere p).ports = s.ports := by simp only [State.purgeWhere, State.clearReservationsWhere]
@[simp] theorem State.purgeWhere_admSeq (s : State) (p : Entry → Bool) : (s.purgeWhere p).admSeq = s.admSeq := by simp only [State.purgeWhere, State.clearReservationsWhere]
@[simp] theorem State.purgeWhere_admOrder (s : State) (p : Entry → Bool) : (s.purgeWhere p).admOrder = s.admOrder := by simp only [State.purgeWhere, State.clearReservationsWhere]
@[simp] theorem State.purgeWhere_dp (s : State) (p : Entry → Bool) : (s.purgeWhere p).dp = s.dp := by simp only [State.purgeWhere, State.clearReservationsWhere]
@[simp] theorem State.purgeWhere_contexts (s : State) (p : Entry → Bool) : (s.purgeWhere p).contexts = s.contexts := by simp only [State.purgeWhere, State.clearReservationsWhere]
@[simp] theorem State.purgeWhere_bindings (s : State) (p : Entry → Bool) : (s.purgeWhere p).bindings = s.bindings := by simp only [State.purgeWhere, State.clearReservationsWhere]
@[simp] theorem State.purgeWhere_cache (s : State) (p : Entry → Bool) : (s.purgeWhere p).cache = { s.cache with
      entries := mapIdx (fun _ e => if decide (e.state ≠ .empty) && p e then Entry.cleared else e) s.cache.entries } := by simp only [State.purgeWhere, State.clearReservationsWhere]
@[simp] theorem State.purgeWhere_miss (s : State) (p : Entry → Bool) : (s.purgeWhere p).miss = s.miss := by simp only [State.purgeWhere, State.clearReservationsWhere]
@[simp] theorem State.purgeWhere_resv (s : State) (p : Entry → Bool) : (s.purgeWhere p).resv = (s.clearReservationsWhere fun _ r => (List.finRange 64).any fun i =>
      (decide (s.cache.entries[i].state ≠ .empty) && p s.cache.entries[i]) && r.bank == s.cache.entries[i].bank &&
        frameOf r.line == s.cache.entries[i].frame).resv := by simp only [State.purgeWhere, State.clearReservationsWhere]
@[simp] theorem State.purgeWhere_sys (s : State) (p : Entry → Bool) : (s.purgeWhere p).sys = s.sys := by simp only [State.purgeWhere, State.clearReservationsWhere]
@[simp] theorem State.purgeWhere_log (s : State) (p : Entry → Bool) : (s.purgeWhere p).log = s.log := by simp only [State.purgeWhere, State.clearReservationsWhere]
@[simp] theorem State.purgeWhere_cmd (s : State) (p : Entry → Bool) : (s.purgeWhere p).cmd = s.cmd := by simp only [State.purgeWhere, State.clearReservationsWhere]
@[simp] theorem State.purgeWhere_ev (s : State) (p : Entry → Bool) : (s.purgeWhere p).ev = s.ev := by simp only [State.purgeWhere, State.clearReservationsWhere]
@[simp] theorem State.purgeWhere_epoch (s : State) (p : Entry → Bool) : (s.purgeWhere p).epoch = s.epoch := by simp only [State.purgeWhere, State.clearReservationsWhere]
@[simp] theorem State.purgeWhere_timer (s : State) (p : Entry → Bool) : (s.purgeWhere p).timer = s.timer := by simp only [State.purgeWhere, State.clearReservationsWhere]
@[simp] theorem State.purgeWhere_config (s : State) (p : Entry → Bool) : (s.purgeWhere p).config = s.config := by simp only [State.purgeWhere, State.clearReservationsWhere]
@[simp] theorem State.purgeWhere_power (s : State) (p : Entry → Bool) : (s.purgeWhere p).power = s.power := by simp only [State.purgeWhere, State.clearReservationsWhere]
@[simp] theorem State.purgeWhere_out (s : State) (p : Entry → Bool) : (s.purgeWhere p).out = s.out := by simp only [State.purgeWhere, State.clearReservationsWhere]
@[simp] theorem State.purgeWhere_pending (s : State) (p : Entry → Bool) : (s.purgeWhere p).pending = s.pending := by simp only [State.purgeWhere, State.clearReservationsWhere]

end Sys2Proof.Machine
end

