-- ==== Sys2Proof/Laws/Frame.lean ====
section
/-! SUPPORT. What the shared operations with a case distinction leave unchanged, field by field. -/

namespace Sys2Proof.Machine

/-! ### `sendResponse` -/

@[simp] theorem State.sendResponse_ports (s : State) (n : AgentId) (t : AgentTag) (o : Outcome) : (s.sendResponse n t o).ports = s.ports := by unfold State.sendResponse; split <;> rfl
@[simp] theorem State.sendResponse_admSeq (s : State) (n : AgentId) (t : AgentTag) (o : Outcome) : (s.sendResponse n t o).admSeq = s.admSeq := by unfold State.sendResponse; split <;> rfl
@[simp] theorem State.sendResponse_admOrder (s : State) (n : AgentId) (t : AgentTag) (o : Outcome) : (s.sendResponse n t o).admOrder = s.admOrder := by unfold State.sendResponse; split <;> rfl
@[simp] theorem State.sendResponse_dp (s : State) (n : AgentId) (t : AgentTag) (o : Outcome) : (s.sendResponse n t o).dp = s.dp := by unfold State.sendResponse; split <;> rfl
@[simp] theorem State.sendResponse_contexts (s : State) (n : AgentId) (t : AgentTag) (o : Outcome) : (s.sendResponse n t o).contexts = s.contexts := by unfold State.sendResponse; split <;> rfl
@[simp] theorem State.sendResponse_bindings (s : State) (n : AgentId) (t : AgentTag) (o : Outcome) : (s.sendResponse n t o).bindings = s.bindings := by unfold State.sendResponse; split <;> rfl
@[simp] theorem State.sendResponse_cache (s : State) (n : AgentId) (t : AgentTag) (o : Outcome) : (s.sendResponse n t o).cache = s.cache := by unfold State.sendResponse; split <;> rfl
@[simp] theorem State.sendResponse_miss (s : State) (n : AgentId) (t : AgentTag) (o : Outcome) : (s.sendResponse n t o).miss = s.miss := by unfold State.sendResponse; split <;> rfl
@[simp] theorem State.sendResponse_resv (s : State) (n : AgentId) (t : AgentTag) (o : Outcome) : (s.sendResponse n t o).resv = s.resv := by unfold State.sendResponse; split <;> rfl
@[simp] theorem State.sendResponse_sys (s : State) (n : AgentId) (t : AgentTag) (o : Outcome) : (s.sendResponse n t o).sys = s.sys := by unfold State.sendResponse; split <;> rfl
@[simp] theorem State.sendResponse_log (s : State) (n : AgentId) (t : AgentTag) (o : Outcome) : (s.sendResponse n t o).log = s.log := by unfold State.sendResponse; split <;> rfl
@[simp] theorem State.sendResponse_cmd (s : State) (n : AgentId) (t : AgentTag) (o : Outcome) : (s.sendResponse n t o).cmd = s.cmd := by unfold State.sendResponse; split <;> rfl
@[simp] theorem State.sendResponse_ev (s : State) (n : AgentId) (t : AgentTag) (o : Outcome) : (s.sendResponse n t o).ev = s.ev := by unfold State.sendResponse; split <;> rfl
@[simp] theorem State.sendResponse_epoch (s : State) (n : AgentId) (t : AgentTag) (o : Outcome) : (s.sendResponse n t o).epoch = s.epoch := by unfold State.sendResponse; split <;> rfl
@[simp] theorem State.sendResponse_timer (s : State) (n : AgentId) (t : AgentTag) (o : Outcome) : (s.sendResponse n t o).timer = s.timer := by unfold State.sendResponse; split <;> rfl
@[simp] theorem State.sendResponse_config (s : State) (n : AgentId) (t : AgentTag) (o : Outcome) : (s.sendResponse n t o).config = s.config := by unfold State.sendResponse; split <;> rfl
@[simp] theorem State.sendResponse_power (s : State) (n : AgentId) (t : AgentTag) (o : Outcome) : (s.sendResponse n t o).power = s.power := by unfold State.sendResponse; split <;> rfl
@[simp] theorem State.sendResponse_pending (s : State) (n : AgentId) (t : AgentTag) (o : Outcome) : (s.sendResponse n t o).pending = s.pending := by unfold State.sendResponse; split <;> rfl

/-! ### `respond` -/

@[simp] theorem State.respond_ports (s : State) (n : AgentId) (t : AgentTag) (o : Outcome) : (s.respond n t o).ports = s.ports.set n (s.ports[n].release t) := by simp [State.respond]
@[simp] theorem State.respond_admSeq (s : State) (n : AgentId) (t : AgentTag) (o : Outcome) : (s.respond n t o).admSeq = s.admSeq := by simp [State.respond]
@[simp] theorem State.respond_admOrder (s : State) (n : AgentId) (t : AgentTag) (o : Outcome) : (s.respond n t o).admOrder = s.admOrder := by simp [State.respond]
@[simp] theorem State.respond_dp (s : State) (n : AgentId) (t : AgentTag) (o : Outcome) : (s.respond n t o).dp = s.dp := by simp [State.respond]
@[simp] theorem State.respond_contexts (s : State) (n : AgentId) (t : AgentTag) (o : Outcome) : (s.respond n t o).contexts = s.contexts := by simp [State.respond]
@[simp] theorem State.respond_bindings (s : State) (n : AgentId) (t : AgentTag) (o : Outcome) : (s.respond n t o).bindings = s.bindings := by simp [State.respond]
@[simp] theorem State.respond_cache (s : State) (n : AgentId) (t : AgentTag) (o : Outcome) : (s.respond n t o).cache = s.cache := by simp [State.respond]
@[simp] theorem State.respond_miss (s : State) (n : AgentId) (t : AgentTag) (o : Outcome) : (s.respond n t o).miss = s.miss := by simp [State.respond]
@[simp] theorem State.respond_resv (s : State) (n : AgentId) (t : AgentTag) (o : Outcome) : (s.respond n t o).resv = s.resv := by simp [State.respond]
@[simp] theorem State.respond_sys (s : State) (n : AgentId) (t : AgentTag) (o : Outcome) : (s.respond n t o).sys = s.sys := by simp [State.respond]
@[simp] theorem State.respond_log (s : State) (n : AgentId) (t : AgentTag) (o : Outcome) : (s.respond n t o).log = s.log := by simp [State.respond]
@[simp] theorem State.respond_cmd (s : State) (n : AgentId) (t : AgentTag) (o : Outcome) : (s.respond n t o).cmd = s.cmd := by simp [State.respond]
@[simp] theorem State.respond_ev (s : State) (n : AgentId) (t : AgentTag) (o : Outcome) : (s.respond n t o).ev = s.ev := by simp [State.respond]
@[simp] theorem State.respond_epoch (s : State) (n : AgentId) (t : AgentTag) (o : Outcome) : (s.respond n t o).epoch = s.epoch := by simp [State.respond]
@[simp] theorem State.respond_timer (s : State) (n : AgentId) (t : AgentTag) (o : Outcome) : (s.respond n t o).timer = s.timer := by simp [State.respond]
@[simp] theorem State.respond_config (s : State) (n : AgentId) (t : AgentTag) (o : Outcome) : (s.respond n t o).config = s.config := by simp [State.respond]
@[simp] theorem State.respond_power (s : State) (n : AgentId) (t : AgentTag) (o : Outcome) : (s.respond n t o).power = s.power := by simp [State.respond]
@[simp] theorem State.respond_pending (s : State) (n : AgentId) (t : AgentTag) (o : Outcome) : (s.respond n t o).pending = s.pending := by simp [State.respond]

/-! ### `addFault` -/

@[simp] theorem State.addFault_ports (s : State) (k : FaultKind) (n : AgentId) (c : Option ContextId) (t : AgentTag) (q : RequestKind) (a : Word) : (s.addFault k n c t q a).ports = s.ports := by unfold State.addFault; split <;> rfl
@[simp] theorem State.addFault_admSeq (s : State) (k : FaultKind) (n : AgentId) (c : Option ContextId) (t : AgentTag) (q : RequestKind) (a : Word) : (s.addFault k n c t q a).admSeq = s.admSeq := by unfold State.addFault; split <;> rfl
@[simp] theorem State.addFault_admOrder (s : State) (k : FaultKind) (n : AgentId) (c : Option ContextId) (t : AgentTag) (q : RequestKind) (a : Word) : (s.addFault k n c t q a).admOrder = s.admOrder := by unfold State.addFault; split <;> rfl
@[simp] theorem State.addFault_dp (s : State) (k : FaultKind) (n : AgentId) (c : Option ContextId) (t : AgentTag) (q : RequestKind) (a : Word) : (s.addFault k n c t q a).dp = s.dp := by unfold State.addFault; split <;> rfl
@[simp] theorem State.addFault_contexts (s : State) (k : FaultKind) (n : AgentId) (c : Option ContextId) (t : AgentTag) (q : RequestKind) (a : Word) : (s.addFault k n c t q a).contexts = s.contexts := by unfold State.addFault; split <;> rfl
@[simp] theorem State.addFault_bindings (s : State) (k : FaultKind) (n : AgentId) (c : Option ContextId) (t : AgentTag) (q : RequestKind) (a : Word) : (s.addFault k n c t q a).bindings = s.bindings := by unfold State.addFault; split <;> rfl
@[simp] theorem State.addFault_cache (s : State) (k : FaultKind) (n : AgentId) (c : Option ContextId) (t : AgentTag) (q : RequestKind) (a : Word) : (s.addFault k n c t q a).cache = s.cache := by unfold State.addFault; split <;> rfl
@[simp] theorem State.addFault_miss (s : State) (k : FaultKind) (n : AgentId) (c : Option ContextId) (t : AgentTag) (q : RequestKind) (a : Word) : (s.addFault k n c t q a).miss = s.miss := by unfold State.addFault; split <;> rfl
@[simp] theorem State.addFault_resv (s : State) (k : FaultKind) (n : AgentId) (c : Option ContextId) (t : AgentTag) (q : RequestKind) (a : Word) : (s.addFault k n c t q a).resv = s.resv := by unfold State.addFault; split <;> rfl
@[simp] theorem State.addFault_sys (s : State) (k : FaultKind) (n : AgentId) (c : Option ContextId) (t : AgentTag) (q : RequestKind) (a : Word) : (s.addFault k n c t q a).sys = s.sys := by unfold State.addFault; split <;> rfl
@[simp] theorem State.addFault_cmd (s : State) (k : FaultKind) (n : AgentId) (c : Option ContextId) (t : AgentTag) (q : RequestKind) (a : Word) : (s.addFault k n c t q a).cmd = s.cmd := by unfold State.addFault; split <;> rfl
@[simp] theorem State.addFault_epoch (s : State) (k : FaultKind) (n : AgentId) (c : Option ContextId) (t : AgentTag) (q : RequestKind) (a : Word) : (s.addFault k n c t q a).epoch = s.epoch := by unfold State.addFault; split <;> rfl
@[simp] theorem State.addFault_timer (s : State) (k : FaultKind) (n : AgentId) (c : Option ContextId) (t : AgentTag) (q : RequestKind) (a : Word) : (s.addFault k n c t q a).timer = s.timer := by unfold State.addFault; split <;> rfl
@[simp] theorem State.addFault_config (s : State) (k : FaultKind) (n : AgentId) (c : Option ContextId) (t : AgentTag) (q : RequestKind) (a : Word) : (s.addFault k n c t q a).config = s.config := by unfold State.addFault; split <;> rfl
@[simp] theorem State.addFault_power (s : State) (k : FaultKind) (n : AgentId) (c : Option ContextId) (t : AgentTag) (q : RequestKind) (a : Word) : (s.addFault k n c t q a).power = s.power := by unfold State.addFault; split <;> rfl
@[simp] theorem State.addFault_out (s : State) (k : FaultKind) (n : AgentId) (c : Option ContextId) (t : AgentTag) (q : RequestKind) (a : Word) : (s.addFault k n c t q a).out = s.out := by unfold State.addFault; split <;> rfl
@[simp] theorem State.addFault_pending (s : State) (k : FaultKind) (n : AgentId) (c : Option ContextId) (t : AgentTag) (q : RequestKind) (a : Word) : (s.addFault k n c t q a).pending = s.pending := by unfold State.addFault; split <;> rfl

/-! ### `finishFault` -/

@[simp] theorem State.finishFault_ports (s : State) (k : FaultKind) (n : AgentId) (c : Option ContextId) (t : AgentTag) (a : Access) : (s.finishFault k n c t a).ports = s.ports.set n (s.ports[n].release t) := by simp [State.finishFault]
@[simp] theorem State.finishFault_admSeq (s : State) (k : FaultKind) (n : AgentId) (c : Option ContextId) (t : AgentTag) (a : Access) : (s.finishFault k n c t a).admSeq = s.admSeq := by simp [State.finishFault]
@[simp] theorem State.finishFault_admOrder (s : State) (k : FaultKind) (n : AgentId) (c : Option ContextId) (t : AgentTag) (a : Access) : (s.finishFault k n c t a).admOrder = s.admOrder := by simp [State.finishFault]
@[simp] theorem State.finishFault_dp (s : State) (k : FaultKind) (n : AgentId) (c : Option ContextId) (t : AgentTag) (a : Access) : (s.finishFault k n c t a).dp = s.dp := by simp [State.finishFault]
@[simp] theorem State.finishFault_contexts (s : State) (k : FaultKind) (n : AgentId) (c : Option ContextId) (t : AgentTag) (a : Access) : (s.finishFault k n c t a).contexts = s.contexts := by simp [State.finishFault]
@[simp] theorem State.finishFault_bindings (s : State) (k : FaultKind) (n : AgentId) (c : Option ContextId) (t : AgentTag) (a : Access) : (s.finishFault k n c t a).bindings = s.bindings := by simp [State.finishFault]
@[simp] theorem State.finishFault_cache (s : State) (k : FaultKind) (n : AgentId) (c : Option ContextId) (t : AgentTag) (a : Access) : (s.finishFault k n c t a).cache = s.cache := by simp [State.finishFault]
@[simp] theorem State.finishFault_miss (s : State) (k : FaultKind) (n : AgentId) (c : Option ContextId) (t : AgentTag) (a : Access) : (s.finishFault k n c t a).miss = s.miss := by simp [State.finishFault]
@[simp] theorem State.finishFault_resv (s : State) (k : FaultKind) (n : AgentId) (c : Option ContextId) (t : AgentTag) (a : Access) : (s.finishFault k n c t a).resv = s.resv := by simp [State.finishFault]
@[simp] theorem State.finishFault_sys (s : State) (k : FaultKind) (n : AgentId) (c : Option ContextId) (t : AgentTag) (a : Access) : (s.finishFault k n c t a).sys = s.sys := by simp [State.finishFault]
@[simp] theorem State.finishFault_cmd (s : State) (k : FaultKind) (n : AgentId) (c : Option ContextId) (t : AgentTag) (a : Access) : (s.finishFault k n c t a).cmd = s.cmd := by simp [State.finishFault]
@[simp] theorem State.finishFault_epoch (s : State) (k : FaultKind) (n : AgentId) (c : Option ContextId) (t : AgentTag) (a : Access) : (s.finishFault k n c t a).epoch = s.epoch := by simp [State.finishFault]
@[simp] theorem State.finishFault_timer (s : State) (k : FaultKind) (n : AgentId) (c : Option ContextId) (t : AgentTag) (a : Access) : (s.finishFault k n c t a).timer = s.timer := by simp [State.finishFault]
@[simp] theorem State.finishFault_config (s : State) (k : FaultKind) (n : AgentId) (c : Option ContextId) (t : AgentTag) (a : Access) : (s.finishFault k n c t a).config = s.config := by simp [State.finishFault]
@[simp] theorem State.finishFault_power (s : State) (k : FaultKind) (n : AgentId) (c : Option ContextId) (t : AgentTag) (a : Access) : (s.finishFault k n c t a).power = s.power := by simp [State.finishFault]
@[simp] theorem State.finishFault_pending (s : State) (k : FaultKind) (n : AgentId) (c : Option ContextId) (t : AgentTag) (a : Access) : (s.finishFault k n c t a).pending = s.pending := by simp [State.finishFault]

/-! ### `finishParked` -/

@[simp] theorem State.finishParked_ports (s : State) (k : FaultKind) (p : Parked) : (s.finishParked k p).ports = s.ports.set p.item.agent (s.ports[p.item.agent].release p.item.tag) := by simp [State.finishParked]
@[simp] theorem State.finishParked_admSeq (s : State) (k : FaultKind) (p : Parked) : (s.finishParked k p).admSeq = s.admSeq := by simp [State.finishParked]
@[simp] theorem State.finishParked_admOrder (s : State) (k : FaultKind) (p : Parked) : (s.finishParked k p).admOrder = s.admOrder := by simp [State.finishParked]
@[simp] theorem State.finishParked_dp (s : State) (k : FaultKind) (p : Parked) : (s.finishParked k p).dp = s.dp := by simp [State.finishParked]
@[simp] theorem State.finishParked_contexts (s : State) (k : FaultKind) (p : Parked) : (s.finishParked k p).contexts = s.contexts := by simp [State.finishParked]
@[simp] theorem State.finishParked_bindings (s : State) (k : FaultKind) (p : Parked) : (s.finishParked k p).bindings = s.bindings := by simp [State.finishParked]
@[simp] theorem State.finishParked_cache (s : State) (k : FaultKind) (p : Parked) : (s.finishParked k p).cache = s.cache := by simp [State.finishParked]
@[simp] theorem State.finishParked_miss (s : State) (k : FaultKind) (p : Parked) : (s.finishParked k p).miss = s.miss := by simp [State.finishParked]
@[simp] theorem State.finishParked_resv (s : State) (k : FaultKind) (p : Parked) : (s.finishParked k p).resv = s.resv := by simp [State.finishParked]
@[simp] theorem State.finishParked_sys (s : State) (k : FaultKind) (p : Parked) : (s.finishParked k p).sys = s.sys := by simp [State.finishParked]
@[simp] theorem State.finishParked_cmd (s : State) (k : FaultKind) (p : Parked) : (s.finishParked k p).cmd = s.cmd := by simp [State.finishParked]
@[simp] theorem State.finishParked_epoch (s : State) (k : FaultKind) (p : Parked) : (s.finishParked k p).epoch = s.epoch := by simp [State.finishParked]
@[simp] theorem State.finishParked_timer (s : State) (k : FaultKind) (p : Parked) : (s.finishParked k p).timer = s.timer := by simp [State.finishParked]
@[simp] theorem State.finishParked_config (s : State) (k : FaultKind) (p : Parked) : (s.finishParked k p).config = s.config := by simp [State.finishParked]
@[simp] theorem State.finishParked_power (s : State) (k : FaultKind) (p : Parked) : (s.finishParked k p).power = s.power := by simp [State.finishParked]
@[simp] theorem State.finishParked_pending (s : State) (k : FaultKind) (p : Parked) : (s.finishParked k p).pending = s.pending := by simp [State.finishParked]

/-! ### `faultRequest` -/

@[simp] theorem State.faultRequest_ports (s : State) (r : Request) (k : FaultKind) (c : Option ContextId) : (s.faultRequest r k c).ports = s.ports.set r.agent (s.ports[r.agent].release r.tag) := by simp only [State.faultRequest]; split <;> simp
@[simp] theorem State.faultRequest_admSeq (s : State) (r : Request) (k : FaultKind) (c : Option ContextId) : (s.faultRequest r k c).admSeq = s.admSeq := by simp only [State.faultRequest]; split <;> simp
@[simp] theorem State.faultRequest_admOrder (s : State) (r : Request) (k : FaultKind) (c : Option ContextId) : (s.faultRequest r k c).admOrder = s.admOrder := by simp only [State.faultRequest]; split <;> simp
@[simp] theorem State.faultRequest_dp (s : State) (r : Request) (k : FaultKind) (c : Option ContextId) : (s.faultRequest r k c).dp = s.dp := by simp only [State.faultRequest]; split <;> simp
@[simp] theorem State.faultRequest_contexts (s : State) (r : Request) (k : FaultKind) (c : Option ContextId) : (s.faultRequest r k c).contexts = s.contexts := by simp only [State.faultRequest]; split <;> simp
@[simp] theorem State.faultRequest_bindings (s : State) (r : Request) (k : FaultKind) (c : Option ContextId) : (s.faultRequest r k c).bindings = s.bindings := by simp only [State.faultRequest]; split <;> simp
@[simp] theorem State.faultRequest_cache (s : State) (r : Request) (k : FaultKind) (c : Option ContextId) : (s.faultRequest r k c).cache = s.cache := by simp only [State.faultRequest]; split <;> simp
@[simp] theorem State.faultRequest_miss (s : State) (r : Request) (k : FaultKind) (c : Option ContextId) : (s.faultRequest r k c).miss = s.miss := by simp only [State.faultRequest]; split <;> simp
@[simp] theorem State.faultRequest_sys (s : State) (r : Request) (k : FaultKind) (c : Option ContextId) : (s.faultRequest r k c).sys = s.sys := by simp only [State.faultRequest]; split <;> simp
@[simp] theorem State.faultRequest_cmd (s : State) (r : Request) (k : FaultKind) (c : Option ContextId) : (s.faultRequest r k c).cmd = s.cmd := by simp only [State.faultRequest]; split <;> simp
@[simp] theorem State.faultRequest_epoch (s : State) (r : Request) (k : FaultKind) (c : Option ContextId) : (s.faultRequest r k c).epoch = s.epoch := by simp only [State.faultRequest]; split <;> simp
@[simp] theorem State.faultRequest_timer (s : State) (r : Request) (k : FaultKind) (c : Option ContextId) : (s.faultRequest r k c).timer = s.timer := by simp only [State.faultRequest]; split <;> simp
@[simp] theorem State.faultRequest_config (s : State) (r : Request) (k : FaultKind) (c : Option ContextId) : (s.faultRequest r k c).config = s.config := by simp only [State.faultRequest]; split <;> simp
@[simp] theorem State.faultRequest_power (s : State) (r : Request) (k : FaultKind) (c : Option ContextId) : (s.faultRequest r k c).power = s.power := by simp only [State.faultRequest]; split <;> simp
@[simp] theorem State.faultRequest_pending (s : State) (r : Request) (k : FaultKind) (c : Option ContextId) : (s.faultRequest r k c).pending = s.pending := by simp only [State.faultRequest]; split <;> simp

/-! ### `wake` -/

@[simp] theorem State.wake_ports (s : State) : (s.wake).ports = s.ports := by unfold State.wake; split <;> rfl
@[simp] theorem State.wake_admSeq (s : State) : (s.wake).admSeq = s.admSeq := by unfold State.wake; split <;> rfl
@[simp] theorem State.wake_admOrder (s : State) : (s.wake).admOrder = s.admOrder := by unfold State.wake; split <;> rfl
@[simp] theorem State.wake_dp (s : State) : (s.wake).dp = s.dp := by unfold State.wake; split <;> rfl
@[simp] theorem State.wake_contexts (s : State) : (s.wake).contexts = s.contexts := by unfold State.wake; split <;> rfl
@[simp] theorem State.wake_bindings (s : State) : (s.wake).bindings = s.bindings := by unfold State.wake; split <;> rfl
@[simp] theorem State.wake_cache (s : State) : (s.wake).cache = s.cache := by unfold State.wake; split <;> rfl
@[simp] theorem State.wake_miss (s : State) : (s.wake).miss = s.miss := by unfold State.wake; split <;> rfl
@[simp] theorem State.wake_resv (s : State) : (s.wake).resv = s.resv := by unfold State.wake; split <;> rfl
@[simp] theorem State.wake_sys (s : State) : (s.wake).sys = s.sys := by unfold State.wake; split <;> rfl
@[simp] theorem State.wake_log (s : State) : (s.wake).log = s.log := by unfold State.wake; split <;> rfl
@[simp] theorem State.wake_cmd (s : State) : (s.wake).cmd = s.cmd := by unfold State.wake; split <;> rfl
@[simp] theorem State.wake_ev (s : State) : (s.wake).ev = s.ev := by unfold State.wake; split <;> rfl
@[simp] theorem State.wake_epoch (s : State) : (s.wake).epoch = s.epoch := by unfold State.wake; split <;> rfl
@[simp] theorem State.wake_timer (s : State) : (s.wake).timer = s.timer := by unfold State.wake; split <;> rfl
@[simp] theorem State.wake_config (s : State) : (s.wake).config = s.config := by unfold State.wake; split <;> rfl
@[simp] theorem State.wake_out (s : State) : (s.wake).out = s.out := by unfold State.wake; split <;> rfl
@[simp] theorem State.wake_pending (s : State) : (s.wake).pending = s.pending := by unfold State.wake; split <;> rfl

/-! ### `reportNotParked` -/

@[simp] theorem State.reportNotParked_ports (s : State) (r : Report) : (s.reportNotParked r).ports = s.ports := by unfold State.reportNotParked; split <;> rfl
@[simp] theorem State.reportNotParked_admSeq (s : State) (r : Report) : (s.reportNotParked r).admSeq = s.admSeq := by unfold State.reportNotParked; split <;> rfl
@[simp] theorem State.reportNotParked_admOrder (s : State) (r : Report) : (s.reportNotParked r).admOrder = s.admOrder := by unfold State.reportNotParked; split <;> rfl
@[simp] theorem State.reportNotParked_dp (s : State) (r : Report) : (s.reportNotParked r).dp = s.dp := by unfold State.reportNotParked; split <;> rfl
@[simp] theorem State.reportNotParked_contexts (s : State) (r : Report) : (s.reportNotParked r).contexts = s.contexts := by unfold State.reportNotParked; split <;> rfl
@[simp] theorem State.reportNotParked_bindings (s : State) (r : Report) : (s.reportNotParked r).bindings = s.bindings := by unfold State.reportNotParked; split <;> rfl
@[simp] theorem State.reportNotParked_cache (s : State) (r : Report) : (s.reportNotParked r).cache = s.cache := by unfold State.reportNotParked; split <;> rfl
@[simp] theorem State.reportNotParked_resv (s : State) (r : Report) : (s.reportNotParked r).resv = s.resv := by unfold State.reportNotParked; split <;> rfl
@[simp] theorem State.reportNotParked_sys (s : State) (r : Report) : (s.reportNotParked r).sys = s.sys := by unfold State.reportNotParked; split <;> rfl
@[simp] theorem State.reportNotParked_log (s : State) (r : Report) : (s.reportNotParked r).log = s.log := by unfold State.reportNotParked; split <;> rfl
@[simp] theorem State.reportNotParked_cmd (s : State) (r : Report) : (s.reportNotParked r).cmd = s.cmd := by unfold State.reportNotParked; split <;> rfl
@[simp] theorem State.reportNotParked_epoch (s : State) (r : Report) : (s.reportNotParked r).epoch = s.epoch := by unfold State.reportNotParked; split <;> rfl
@[simp] theorem State.reportNotParked_timer (s : State) (r : Report) : (s.reportNotParked r).timer = s.timer := by unfold State.reportNotParked; split <;> rfl
@[simp] theorem State.reportNotParked_config (s : State) (r : Report) : (s.reportNotParked r).config = s.config := by unfold State.reportNotParked; split <;> rfl
@[simp] theorem State.reportNotParked_power (s : State) (r : Report) : (s.reportNotParked r).power = s.power := by unfold State.reportNotParked; split <;> rfl
@[simp] theorem State.reportNotParked_out (s : State) (r : Report) : (s.reportNotParked r).out = s.out := by unfold State.reportNotParked; split <;> rfl
@[simp] theorem State.reportNotParked_pending (s : State) (r : Report) : (s.reportNotParked r).pending = s.pending := by unfold State.reportNotParked; split <;> rfl

/-! ### `issue` -/

@[simp] theorem State.issue_ports (s : State) (r : Request) (c : ContextId) (b : BitVec 4) (a : Word) : (s.issue r c b a).ports = s.ports := by unfold State.issue; split <;> rfl
@[simp] theorem State.issue_admSeq (s : State) (r : Request) (c : ContextId) (b : BitVec 4) (a : Word) : (s.issue r c b a).admSeq = s.admSeq := by unfold State.issue; split <;> rfl
@[simp] theorem State.issue_admOrder (s : State) (r : Request) (c : ContextId) (b : BitVec 4) (a : Word) : (s.issue r c b a).admOrder = s.admOrder := by unfold State.issue; split <;> rfl
@[simp] theorem State.issue_dp (s : State) (r : Request) (c : ContextId) (b : BitVec 4) (a : Word) : (s.issue r c b a).dp = s.dp := by unfold State.issue; split <;> rfl
@[simp] theorem State.issue_contexts (s : State) (r : Request) (c : ContextId) (b : BitVec 4) (a : Word) : (s.issue r c b a).contexts = s.contexts := by unfold State.issue; split <;> rfl
@[simp] theorem State.issue_bindings (s : State) (r : Request) (c : ContextId) (b : BitVec 4) (a : Word) : (s.issue r c b a).bindings = s.bindings := by unfold State.issue; split <;> rfl
@[simp] theorem State.issue_cache (s : State) (r : Request) (c : ContextId) (b : BitVec 4) (a : Word) : (s.issue r c b a).cache = s.cache := by unfold State.issue; split <;> rfl
@[simp] theorem State.issue_miss (s : State) (r : Request) (c : ContextId) (b : BitVec 4) (a : Word) : (s.issue r c b a).miss = s.miss := by unfold State.issue; split <;> rfl
@[simp] theorem State.issue_resv (s : State) (r : Request) (c : ContextId) (b : BitVec 4) (a : Word) : (s.issue r c b a).resv = s.resv := by unfold State.issue; split <;> rfl
@[simp] theorem State.issue_log (s : State) (r : Request) (c : ContextId) (b : BitVec 4) (a : Word) : (s.issue r c b a).log = s.log := by unfold State.issue; split <;> rfl
@[simp] theorem State.issue_cmd (s : State) (r : Request) (c : ContextId) (b : BitVec 4) (a : Word) : (s.issue r c b a).cmd = s.cmd := by unfold State.issue; split <;> rfl
@[simp] theorem State.issue_ev (s : State) (r : Request) (c : ContextId) (b : BitVec 4) (a : Word) : (s.issue r c b a).ev = s.ev := by unfold State.issue; split <;> rfl
@[simp] theorem State.issue_epoch (s : State) (r : Request) (c : ContextId) (b : BitVec 4) (a : Word) : (s.issue r c b a).epoch = s.epoch := by unfold State.issue; split <;> rfl
@[simp] theorem State.issue_timer (s : State) (r : Request) (c : ContextId) (b : BitVec 4) (a : Word) : (s.issue r c b a).timer = s.timer := by unfold State.issue; split <;> rfl
@[simp] theorem State.issue_config (s : State) (r : Request) (c : ContextId) (b : BitVec 4) (a : Word) : (s.issue r c b a).config = s.config := by unfold State.issue; split <;> rfl
@[simp] theorem State.issue_power (s : State) (r : Request) (c : ContextId) (b : BitVec 4) (a : Word) : (s.issue r c b a).power = s.power := by unfold State.issue; split <;> rfl
@[simp] theorem State.issue_out (s : State) (r : Request) (c : ContextId) (b : BitVec 4) (a : Word) : (s.issue r c b a).out = s.out := by unfold State.issue; split <;> rfl
@[simp] theorem State.issue_pending (s : State) (r : Request) (c : ContextId) (b : BitVec 4) (a : Word) : (s.issue r c b a).pending = s.pending := by unfold State.issue; split <;> rfl

/-! ### `markEntry` -/

@[simp] theorem State.markEntry_ports (s : State) (h : Option EntryId) (f : Entry → Entry) : (s.markEntry h f).ports = s.ports := by unfold State.markEntry; split <;> rfl
@[simp] theorem State.markEntry_admSeq (s : State) (h : Option EntryId) (f : Entry → Entry) : (s.markEntry h f).admSeq = s.admSeq := by unfold State.markEntry; split <;> rfl
@[simp] theorem State.markEntry_admOrder (s : State) (h : Option EntryId) (f : Entry → Entry) : (s.markEntry h f).admOrder = s.admOrder := by unfold State.markEntry; split <;> rfl
@[simp] theorem State.markEntry_dp (s : State) (h : Option EntryId) (f : Entry → Entry) : (s.markEntry h f).dp = s.dp := by unfold State.markEntry; split <;> rfl
@[simp] theorem State.markEntry_contexts (s : State) (h : Option EntryId) (f : Entry → Entry) : (s.markEntry h f).contexts = s.contexts := by unfold State.markEntry; split <;> rfl
@[simp] theorem State.markEntry_bindings (s : State) (h : Option EntryId) (f : Entry → Entry) : (s.markEntry h f).bindings = s.bindings := by unfold State.markEntry; split <;> rfl
@[simp] theorem State.markEntry_miss (s : State) (h : Option EntryId) (f : Entry → Entry) : (s.markEntry h f).miss = s.miss := by unfold State.markEntry; split <;> rfl
@[simp] theorem State.markEntry_resv (s : State) (h : Option EntryId) (f : Entry → Entry) : (s.markEntry h f).resv = s.resv := by unfold State.markEntry; split <;> rfl
@[simp] theorem State.markEntry_sys (s : State) (h : Option EntryId) (f : Entry → Entry) : (s.markEntry h f).sys = s.sys := by unfold State.markEntry; split <;> rfl
@[simp] theorem State.markEntry_log (s : State) (h : Option EntryId) (f : Entry → Entry) : (s.markEntry h f).log = s.log := by unfold State.markEntry; split <;> rfl
@[simp] theorem State.markEntry_cmd (s : State) (h : Option EntryId) (f : Entry → Entry) : (s.markEntry h f).cmd = s.cmd := by unfold State.markEntry; split <;> rfl
@[simp] theorem State.markEntry_ev (s : State) (h : Option EntryId) (f : Entry → Entry) : (s.markEntry h f).ev = s.ev := by unfold State.markEntry; split <;> rfl
@[simp] theorem State.markEntry_epoch (s : State) (h : Option EntryId) (f : Entry → Entry) : (s.markEntry h f).epoch = s.epoch := by unfold State.markEntry; split <;> rfl
@[simp] theorem State.markEntry_timer (s : State) (h : Option EntryId) (f : Entry → Entry) : (s.markEntry h f).timer = s.timer := by unfold State.markEntry; split <;> rfl
@[simp] theorem State.markEntry_config (s : State) (h : Option EntryId) (f : Entry → Entry) : (s.markEntry h f).config = s.config := by unfold State.markEntry; split <;> rfl
@[simp] theorem State.markEntry_power (s : State) (h : Option EntryId) (f : Entry → Entry) : (s.markEntry h f).power = s.power := by unfold State.markEntry; split <;> rfl
@[simp] theorem State.markEntry_out (s : State) (h : Option EntryId) (f : Entry → Entry) : (s.markEntry h f).out = s.out := by unfold State.markEntry; split <;> rfl
@[simp] theorem State.markEntry_pending (s : State) (h : Option EntryId) (f : Entry → Entry) : (s.markEntry h f).pending = s.pending := by unfold State.markEntry; split <;> rfl

/-! ### `epochTick` -/

@[simp] theorem State.epochTick_ports (s : State) : (s.epochTick).ports = s.ports := by unfold State.epochTick; split <;> rfl
@[simp] theorem State.epochTick_admSeq (s : State) : (s.epochTick).admSeq = s.admSeq := by unfold State.epochTick; split <;> rfl
@[simp] theorem State.epochTick_admOrder (s : State) : (s.epochTick).admOrder = s.admOrder := by unfold State.epochTick; split <;> rfl
@[simp] theorem State.epochTick_dp (s : State) : (s.epochTick).dp = s.dp := by unfold State.epochTick; split <;> rfl
@[simp] theorem State.epochTick_contexts (s : State) : (s.epochTick).contexts = s.contexts := by unfold State.epochTick; split <;> rfl
@[simp] theorem State.epochTick_bindings (s : State) : (s.epochTick).bindings = s.bindings := by unfold State.epochTick; split <;> rfl
@[simp] theorem State.epochTick_cache (s : State) : (s.epochTick).cache = s.cache := by unfold State.epochTick; split <;> rfl
@[simp] theorem State.epochTick_miss (s : State) : (s.epochTick).miss = s.miss := by unfold State.epochTick; split <;> rfl
@[simp] theorem State.epochTick_resv (s : State) : (s.epochTick).resv = s.resv := by unfold State.epochTick; split <;> rfl
@[simp] theorem State.epochTick_sys (s : State) : (s.epochTick).sys = s.sys := by unfold State.epochTick; split <;> rfl
@[simp] theorem State.epochTick_log (s : State) : (s.epochTick).log = s.log := by unfold State.epochTick; split <;> rfl
@[simp] theorem State.epochTick_cmd (s : State) : (s.epochTick).cmd = s.cmd := by unfold State.epochTick; split <;> rfl
@[simp] theorem State.epochTick_epoch (s : State) : (s.epochTick).epoch = s.epoch := by unfold State.epochTick; split <;> rfl
@[simp] theorem State.epochTick_config (s : State) : (s.epochTick).config = s.config := by unfold State.epochTick; split <;> rfl
@[simp] theorem State.epochTick_power (s : State) : (s.epochTick).power = s.power := by unfold State.epochTick; split <;> rfl
@[simp] theorem State.epochTick_out (s : State) : (s.epochTick).out = s.out := by unfold State.epochTick; split <;> rfl
@[simp] theorem State.epochTick_pending (s : State) : (s.epochTick).pending = s.pending := by unfold State.epochTick; split <;> rfl

end Sys2Proof.Machine
end

