-- ==== Sys2Proof/Laws/Basic.lean ====
section
/-! SUPPORT. The small lemmas of the shared definitions: vectors by index, the lowest index, the event masks of the sources,
and the state lemmas by field as one equation each. -/

namespace Sys2Proof.Machine

/-! ### Vectors -/

@[simp] theorem mapIdx_getElem {α β : Type} {n : Nat} (f : Fin n → α → β) (v : Vector α n) (i : Nat) (h : i < n) :
    (mapIdx f v)[i] = f ⟨i, h⟩ v[i] := by simp [mapIdx]

theorem mapIdx_fin {α β : Type} {n : Nat} (f : Fin n → α → β) (v : Vector α n) (i : Fin n) :
    (mapIdx f v)[i] = f i v[i] := by simp

/-- Two vectors that agree at every index are equal. -/
theorem vector_ext {α : Type} {n : Nat} {v w : Vector α n} (h : ∀ i : Fin n, v[i] = w[i]) : v = w :=
  Vector.ext fun i hi => h ⟨i, hi⟩

theorem set_getElem_fin {α : Type} {n : Nat} (v : Vector α n) (i j : Fin n) (x : α) :
    (v.set i x)[j] = if j = i then x else v[j] := by
  rcases eq_or_ne j i with rfl | h
  · simp
  · have h' : (i : Nat) ≠ j := fun e => h (Fin.ext e.symm)
    simp [h, h']

@[simp] theorem set_self {α : Type} {n : Nat} (v : Vector α n) (i : Fin n) : v.set i v[i] = v :=
  vector_ext fun j => by rw [set_getElem_fin]; split <;> simp_all

/-- Writing twice at one index. -/
@[simp] theorem set_set {α : Type} {n : Nat} (v : Vector α n) (i : Fin n) (x y : α) : (v.set i x).set i y = v.set i y :=
  vector_ext fun j => by simp only [set_getElem_fin]; split <;> rfl

theorem find_finRange_eq_some {n : Nat} (p : Fin n → Bool) (i : Fin n) :
    (List.finRange n).find? p = some i ↔ p i = true ∧ ∀ j, j < i → p j = false := by
  induction n with
  | zero => exact i.elim0
  | succ n ih =>
    rw [List.finRange_succ, List.find?_cons]
    cases h0 : p 0 with
    | true =>
      simp only [Option.some.injEq]
      constructor
      · rintro rfl; exact ⟨h0, fun j hj => absurd hj (by simp)⟩
      · rintro ⟨-, h⟩
        by_contra hne
        have := h 0 (Fin.pos_of_ne_zero fun e => hne e.symm)
        simp [h0] at this
    | false =>
      simp only [List.find?_map, Function.comp_def, Option.map_eq_some_iff]
      constructor
      · rintro ⟨k, hk, rfl⟩
        obtain ⟨hk1, hk2⟩ := (ih (fun j => p j.succ) k).1 hk
        refine ⟨hk1, fun j hj => ?_⟩
        rcases Fin.eq_zero_or_eq_succ j with rfl | ⟨j', rfl⟩
        · exact h0
        · exact hk2 j' (Fin.succ_lt_succ_iff.1 hj)
      · rintro ⟨h1, h2⟩
        rcases Fin.eq_zero_or_eq_succ i with rfl | ⟨i', rfl⟩
        · simp [h0] at h1
        · exact ⟨i', (ih (fun j => p j.succ) i').2 ⟨h1, fun j hj => h2 _ (Fin.succ_lt_succ_iff.2 hj)⟩, rfl⟩

/-- The lowest index: where the element satisfies `p` and no lower one does. -/
theorem findIdx_eq_some {α : Type} {n : Nat} (p : α → Bool) (v : Vector α n) (i : Fin n) :
    findIdx p v = some i ↔ p v[i] = true ∧ ∀ j : Fin n, j < i → p v[j] = false := find_finRange_eq_some _ i

theorem findIdx_eq_none {α : Type} {n : Nat} (p : α → Bool) (v : Vector α n) :
    findIdx p v = none ↔ ∀ i : Fin n, p v[i] = false := by
  simp [findIdx, List.find?_eq_none]

/-- Where exactly one element satisfies `p`, it is the one found. -/
theorem findIdx_eq_of_unique {α : Type} {n : Nat} {p : α → Bool} {v : Vector α n} {i : Fin n} (h : p v[i] = true)
    (hu : ∀ j : Fin n, p v[j] = true → j = i) : findIdx p v = some i := by
  refine (findIdx_eq_some ..).2 ⟨h, fun j hj => ?_⟩
  by_contra hne
  exact absurd (hu j (by simpa using hne)) (ne_of_lt hj)

/-- The first element of `pointer, pointer + 1, …` that satisfies `p`. -/
theorem find_rotation_eq_some {n : Nat} [NeZero n] (p : Fin n → Bool) (start i : Fin n) :
    ((List.finRange n).map fun k => start + k).find? p = some i ↔
      p i = true ∧ ∀ k : Fin n, k < i - start → p (start + k) = false := by
  rw [List.find?_map, Option.map_eq_some_iff]
  constructor
  · rintro ⟨k, hk, rfl⟩
    obtain ⟨h1, h2⟩ := (find_finRange_eq_some _ k).1 hk
    exact ⟨h1, fun j hj => h2 j (by simpa using hj)⟩
  · rintro ⟨h1, h2⟩
    exact ⟨i - start, (find_finRange_eq_some _ _).2 ⟨by simpa using h1, fun j hj => h2 j hj⟩, by simp⟩

theorem find_rotation_eq_none {n : Nat} [NeZero n] (p : Fin n → Bool) (start : Fin n) :
    ((List.finRange n).map fun k => start + k).find? p = none ↔ ∀ i, p i = false := by
  simp only [List.find?_eq_none, List.mem_map, List.mem_finRange, true_and, forall_exists_index,
    forall_apply_eq_imp_iff, Bool.not_eq_true]
  exact ⟨fun h i => by simpa using h (i - start), fun h i => h _⟩

/-! ### Event masks -/

@[simp] theorem bit_serviceError : Source.bit .serviceError = 0x001 := rfl
@[simp] theorem bit_extEventA : Source.bit .extEventA = 0x002 := rfl
@[simp] theorem bit_missReport : Source.bit .missReport = 0x004 := rfl
@[simp] theorem bit_faultLogged : Source.bit .faultLogged = 0x008 := rfl
@[simp] theorem bit_agentSignal : Source.bit .agentSignal = 0x010 := rfl
@[simp] theorem bit_intervalMatch : Source.bit .intervalMatch = 0x020 := rfl
@[simp] theorem bit_commandDone : Source.bit .commandDone = 0x040 := rfl
@[simp] theorem bit_extEventB : Source.bit .extEventB = 0x080 := rfl
@[simp] theorem bit_timerOverflow : Source.bit .timerOverflow = 0x100 := rfl

/-! ### Requests finish -/

/-- A request finishes (R12): the whole state after it. -/
theorem State.respond_eq (s : State) (n : AgentId) (t : AgentTag) (o : Outcome) :
    s.respond n t o = { s with
      out := if s.portState n = .reset then s.out else s.out ++ [.response n t o]
      ports := s.ports.set n (s.ports[n].release t) } := by
  unfold State.respond State.sendResponse State.setPort State.emit
  split <;> rfl

/-- A fault record is added (R117): the whole state after it. -/
theorem State.addFault_eq (s : State) (k : FaultKind) (n : AgentId) (c : Option ContextId) (t : AgentTag) (q : RequestKind)
    (a : Word) :
    s.addFault k n c t q a = { s with
      log := (s.addFault k n c t q a).log
      ev := { s.ev with requests := (s.addFault k n c t q a).ev.requests } } := by
  unfold State.addFault; split <;> rfl

/-- A request's fault (R97, R98, R115). -/
theorem State.faultRequest_eq (s : State) (r : Request) (k : FaultKind) (c : Option ContextId) :
    s.faultRequest r k c =
      (State.respond { s with resv := s.resvAfterFault r } r.agent r.tag (.fault k)).addFault k r.agent c r.tag
        (.access r.acc.kind) r.acc.addr := by
  unfold State.faultRequest State.finishFault State.resvAfterFault
  cases h : r.acc.kind <;> simp [AccessKind.usesReservation, State.clearReservation]

/-- An action wakes the device (R164). -/
theorem State.wake_eq (s : State) : s.wake = { s with power := s.power.woken } := by
  unfold State.wake Power.woken Power.toWaking; split <;> simp_all

end Sys2Proof.Machine
end

