-- ==== Sys2Proof/Laws/Operands.lean ====
section
/-! SUPPORT. What the operand functions compute, in the numbers of the spec: arguments, the parts of an address, register
fields. -/

namespace Sys2Proof.Machine

/-! ### Arguments -/

/-- An argument out of its range. -/
theorem finArg_eq_none (n v : Nat) (h : n ≤ v) : finArg n v = none := by simp [finArg]; omega

/-- An argument in its range. -/
theorem finArg_eq_some {n v : Nat} (i : Fin n) (h : v = i.val) : finArg n v = some i := by subst h; simp [finArg]

theorem lowHalf_eq (w : Word) : lowHalf w = w.toNat % 65536 := by simp [lowHalf, BitVec.extractLsb'_toNat]

theorem highHalf_eq (w : Word) : highHalf w = w.toNat / 65536 := by
  have := w.isLt
  simp [highHalf, BitVec.extractLsb'_toNat, Nat.shiftRight_eq_div_pow]; omega

/-- A key argument in range names its key (R65). -/
theorem keyArg_eq_some {a b : Word} (h : KeyInRange a b) : keyArg a b = some (keyNamed a b) := by
  obtain ⟨h1, h2, h3⟩ := h
  simp only [keyArg, segArg, vpnArg, if_pos (And.intro h1 h2), if_pos h3, keyNamed]
  rfl

/-- A key argument out of range (R65). -/
theorem keyArg_eq_none {a b : Word} (h : ¬ KeyInRange a b) : keyArg a b = none := by
  unfold keyArg segArg vpnArg
  split
  · rename_i x y hx hy
    exfalso; apply h
    split at hx
    · split at hy
      · rename_i h1 h2; exact ⟨h1.1, h1.2, h2⟩
      · cases hy
    · cases hx
  · rfl

/-! ### Addresses -/

/-- The slot number is the address divided by 2 to the 30 (R38). -/
theorem slotOf_eq (slot : Fin 4) (a : Word) (h : slot.val = a.toNat / 0x40000000) : slotOf a = slot := by
  apply Fin.ext
  simp [slotOf, BitVec.extractLsb'_toNat, Nat.shiftRight_eq_div_pow]
  omega

/-- The page number (R38). -/
theorem vpnOf_eq (v : BitVec 18) (a : Word) (h : v.toNat = a.toNat % 0x40000000 / 4096) : vpnOf a = v := by
  apply BitVec.eq_of_toNat_eq
  simp [vpnOf, BitVec.extractLsb'_toNat, Nat.shiftRight_eq_div_pow]
  omega

/-- The address within the bank: frame times 4096 plus the page offset (R42). -/
theorem frameAddr_eq (f : BitVec 20) (a p : Word) (h : p.toNat = f.toNat * 4096 + a.toNat % 4096) : frameAddr f a = p := by
  apply BitVec.eq_of_toNat_eq
  rw [h]
  simp only [frameAddr, pageOffset, BitVec.toNat_append, BitVec.extractLsb'_toNat]
  rw [← Nat.shiftLeft_add_eq_or_of_lt]
  · simp [Nat.shiftLeft_eq]
  · exact Nat.mod_lt _ (by decide)

/-- The line of an address: the multiple of 32 at or below it (R96). -/
theorem eq_lineOf_iff (l a : Word) : l = lineOf a ↔ l.toNat = a.toNat - a.toNat % 32 := by
  have : (lineOf a).toNat = a.toNat - a.toNat % 32 := by
    simp only [lineOf, BitVec.toNat_shiftLeft, BitVec.toNat_ushiftRight, Nat.shiftLeft_eq, Nat.shiftRight_eq_div_pow]
    have := a.isLt; omega
  rw [← this]; exact BitVec.toNat_inj.symm

theorem block_iff (a n m : Nat) (hm : 0 < m) (hn : 1 ≤ n) : a / m = (a + n - 1) / m ↔ ∀ i < n, (a + i) / m = a / m := by
  constructor
  · intro h i hi
    apply le_antisymm
    · rw [h]; exact Nat.div_le_div_right (by omega)
    · exact Nat.div_le_div_right (by omega)
  · intro h
    have := h (n-1) (by omega)
    rw [← this]; congr 1; omega

/-- A request lies in one 64-byte block: all its bytes do (R3). -/
theorem oneBlock_iff (a n : Nat) (hn : 1 ≤ n) : oneBlock a n = true ↔ ∀ i < n, (a + i) / 64 = a / 64 := by
  simp only [oneBlock, decide_eq_true_eq]; exact block_iff a n 64 (by decide) hn

/-! ### Register fields -/

/-- A write-one-to-clear bit (R122). -/
theorem w1c_eq (o w n : Bool) : w1c o w n = if n then true else if w then false else o := by cases o <;> cases w <;> cases n <;> rfl

theorem bit_zero (b : Bool) : bit b 0 = if b then 1 else 0 := by cases b <;> rfl

/-- A field that fits holds its number. -/
theorem toNat_field (n lo : Nat) (h : n * 2 ^ lo < 2 ^ 32) : (field n lo).toNat = n * 2 ^ lo := by
  unfold field
  have h1 : 1 ≤ 2 ^ lo := Nat.one_le_two_pow
  have h2 : n < 2 ^ 32 := lt_of_le_of_lt (Nat.le_mul_of_pos_right _ h1) h
  rw [BitVec.toNat_shiftLeft, BitVec.toNat_ofNat, Nat.mod_eq_of_lt h2, Nat.shiftLeft_eq, Nat.mod_eq_of_lt h]
-- packing: w ||| field, with w below the field

/-- A field placed above the fields below it adds its number. -/
theorem toNat_or_field (w : Word) (n lo : Nat) (h : n * 2 ^ lo < 2 ^ 32) (hw : w.toNat < 2 ^ lo) : (w ||| field n lo).toNat = w.toNat + n * 2 ^ lo := by
  rw [BitVec.toNat_or, toNat_field n lo h, Nat.or_comm, ← Nat.shiftLeft_eq, ← Nat.shiftLeft_add_eq_or_of_lt hw, Nat.add_comm]

/-- A flag placed above the fields below it. -/
theorem toNat_or_bit (w : Word) (b : Bool) (lo : Nat) (h : 2 ^ lo < 2 ^ 32) (hw : w.toNat < 2 ^ lo) : (w ||| bit b lo).toNat = w.toNat + if b then 2 ^ lo else 0 := by
  unfold bit
  rw [toNat_or_field w _ lo (by cases b <;> simp <;> exact h) hw]; cases b <;> simp

theorem toNat_or_field_bitVec {k : Nat} (w : Word) (b : BitVec k) (lo : Nat) (h : k + lo ≤ 32) (hw : w.toNat < 2 ^ lo) : (w ||| field b.toNat lo).toNat = w.toNat + b.toNat * 2 ^ lo := by
  refine toNat_or_field w _ lo ?_ hw
  calc b.toNat * 2 ^ lo < 2 ^ k * 2 ^ lo := Nat.mul_lt_mul_of_pos_right b.isLt (Nat.two_pow_pos lo)
    _ = 2 ^ (k + lo) := by rw [Nat.pow_add]
    _ ≤ 2 ^ 32 := Nat.pow_le_pow_right (by omega) h

theorem bit_getLsbD (b : Bool) (lo i : Nat) (h : lo < 32) : (bit b lo).getLsbD i = (b && decide (i = lo)) := by
  unfold bit field
  cases b
  · simp
  · simp [BitVec.getLsbD_shiftLeft]
    rw [Bool.eq_iff_iff]; simp
    constructor
    · rintro ⟨⟨h1, h2⟩, h3⟩; omega
    · rintro rfl; simp [h]

/-- Event mask bit `i` is register bit `i + 1` (R125). -/
theorem maskOfWord_getLsbD (v : Word) (i : Nat) (h : i < 9) : (maskOfWord v).getLsbD i = v.getLsbD (i + 1) := by
  simp [maskOfWord, BitVec.getLsbD_extractLsb', h, Nat.add_comm]

end Sys2Proof.Machine
end

