-- ==== Sys2Proof/Laws/Steps.lean ====
section
/-! SUPPORT. Which step the decision point takes, in the words of Safety.lean, and what a host command step and a new agent item
step do when they are taken. -/

namespace Sys2Proof.Machine

/-! ### Readiness -/

theorem creditFree_iff (s : State) : s.creditFree = true ↔ s.HasCredit := by
  unfold State.creditFree State.freeTag
  rw [Option.isSome_iff_ne_none, ne_eq, findIdx_eq_none]
  simp [-Fin.getElem_fin, Option.isNone_eq_false_iff, Option.isSome_iff_ne_none]

theorem gateOpen_iff (s : State) : s.gateOpen = true ↔ s.GateOpen := by
  simp [State.gateOpen, creditFree_iff]

theorem gateOpen_eq_false_iff (s : State) : s.gateOpen = false ↔ ¬ s.GateOpen := by
  rw [← gateOpen_iff]; simp

theorem freeTag_eq_some (s : State) (g : GatewayTag) : s.freeTag = some g ↔ s.LowestFree g := by
  unfold State.freeTag
  rw [findIdx_eq_some]
  simp [-Fin.getElem_fin, Option.isNone_eq_false_iff, Option.isSome_iff_ne_none]

theorem allCreditsFree_iff (s : State) : s.allCreditsFree = true ↔ ∀ g : GatewayTag, s.sys.table[g] = none := by
  simp [State.allCreditsFree]

theorem pendingReset_eq_none (s : State) : s.pendingReset = none ↔ ∀ n : AgentId, s.ports[n].resetPending = false :=
  findIdx_eq_none ..

theorem pendingReset_eq_some (s : State) (n : AgentId) :
    s.pendingReset = some n ↔
      s.ports[n].resetPending = true ∧ ∀ m : AgentId, m < n → s.ports[m].resetPending = false := findIdx_eq_some ..

theorem eligible_iff (s : State) (n : AgentId) : s.eligible n = true ↔ s.HeadEligible n := by
  unfold State.eligible State.HeadEligible State.suspends
  cases hl : s.ports[n].line with
  | nil => simp
  | cons it rest =>
    cases hb : s.bindings[n] with
    | none => simp [gateOpen_iff]
    | some c => simp [gateOpen_iff]

theorem chosenPort_eq_some (s : State) (n : AgentId) : s.chosenPort = some n ↔ s.Served n := by
  unfold State.chosenPort rotation
  rw [find_rotation_eq_some, eligible_iff]
  simp only [State.Served, ← eligible_iff, Bool.not_eq_true]

theorem chosenPort_eq_none (s : State) : s.chosenPort = none ↔ ∀ n, ¬ s.HeadEligible n := by
  unfold State.chosenPort rotation
  rw [find_rotation_eq_none]
  simp [← eligible_iff]

/-- The epoch step comes first (R24). -/
theorem nextStep_epoch {s : State} (h : s.dp.epoch ≠ none) : s.nextStep = some .epoch := by
  simp [State.nextStep, Option.isSome_iff_ne_none, h]

/-- Then the lowest pending port reset step (R24, R26). -/
theorem nextStep_portReset {s : State} (h : s.dp.epoch = none) {n : AgentId} (hn : s.ports[n].resetPending = true)
    (hl : ∀ m : AgentId, m < n → s.ports[m].resetPending = false) : s.nextStep = some (.portReset n) := by
  simp only [State.nextStep, h, (pendingReset_eq_some s n).2 ⟨hn, hl⟩]; rfl

/-- Then the others, in the order of R24. -/
theorem nextStep_of_noUrgent {s : State} (h : s.NoUrgentStep) :
    s.nextStep =
      if s.dp.replay ≠ [] ∧ s.GateOpen then some .replay
      else if s.cmd.fifo ≠ [] ∧ s.cmd.results.length < 4 then some .hostCommand
      else if s.dp.replay = [] then s.chosenPort.map .newItem
      else none := by
  simp only [State.nextStep, h.1, (pendingReset_eq_none s).2 h.2, Option.isSome_none, Bool.false_eq_true, if_false,
    Bool.and_eq_true, Bool.not_eq_true', List.isEmpty_eq_false_iff, gateOpen_iff, decide_eq_true_eq, List.isEmpty_iff, ne_eq]

/-- With an urgent step pending no other step is next (R24). -/
theorem nextStep_of_urgent {s : State} (h : ¬ s.NoUrgentStep) : s.nextStep = some .epoch ∨ ∃ n, s.nextStep = some (.portReset n) := by
  by_cases he : s.dp.epoch = none
  · right
    cases hp : s.pendingReset with
    | none => exact absurd ⟨he, (pendingReset_eq_none s).1 hp⟩ h
    | some n => exact ⟨n, by simp [State.nextStep, he, hp]⟩
  · exact .inl (nextStep_epoch he)

theorem nextStep_replay {s : State} (h : s.ReplayReady) (hr : s.dp.replay ≠ []) : s.nextStep = some .replay := by
  rw [nextStep_of_noUrgent h.1, if_pos ⟨hr, h.2⟩]

theorem nextStep_hostCommand {s : State} (h : s.CommandReady) (hf : s.cmd.fifo ≠ []) : s.nextStep = some .hostCommand := by
  rw [nextStep_of_noUrgent h.1, if_neg, if_pos ⟨hf, h.2.2⟩]
  rintro ⟨h1, h2⟩
  exact h.2.1.elim h1 fun h' => h' h2

theorem nextStep_newItem {s : State} (h : s.NewItemReady) : s.nextStep = s.chosenPort.map .newItem := by
  rw [nextStep_of_noUrgent h.1, if_neg (fun h' => h'.1 h.2.1), if_neg, if_pos h.2.1]
  rintro ⟨h1, h2⟩
  exact h.2.2.elim h1 fun h' => absurd h2 (by omega)

/-- When the host command step is the next one, the step is as R28 says. -/
theorem commandReady_of_nextStep {s : State} (h : s.nextStep = some .hostCommand) : s.CommandReady ∧ s.cmd.fifo ≠ [] := by
  by_cases hu : s.NoUrgentStep
  · rw [nextStep_of_noUrgent hu] at h
    split at h
    · cases h
    · rename_i h1
      split at h
      · rename_i h2
        exact ⟨⟨hu, (by tauto), h2.2⟩, h2.1⟩
      · split at h
        · cases hc : s.chosenPort <;> simp [hc] at h
        · cases h
  · rcases nextStep_of_urgent hu with h' | ⟨n, h'⟩ <;> rw [h'] at h <;> cases h

/-! ### Host commands -/

theorem finishCommand_eq (u : State) (k : Byte) (st : Status) (d0 d1 : Word) :
    State.finishCommand ⟨u, st, d0, d1⟩ k = u.afterCommand k st d0 d1 := rfl

/-- A host command step at a ready head: it is executed where it is of the row's kind. -/
theorem commandStep_ready {s : State} {k : Byte} {a : Vector Word 4} (h : s.CommandAtHead k a) (p : Byte → Bool)
    (body : Vector Word 4 → CmdResult) :
    s.commandStep p body =
      if p k then (body a).state.afterCommand k (body a).status (body a).data0 (body a).data1 else s := by
  obtain ⟨hr, hh⟩ := h
  cases hf : s.cmd.fifo with
  | nil => simp [hf] at hh
  | cons e rest =>
    have he : e = { kind := k, args := a } := by simpa [hf] using hh
    unfold State.commandStep
    rw [if_pos (nextStep_hostCommand hr (by simp [hf])), hf, he]
    rfl

/-- A host command step changes nothing, or executes a head that is ready. -/
theorem commandStep_cases (s : State) (p : Byte → Bool) (body : Vector Word 4 → CmdResult) :
    s.commandStep p body = s ∨ ∃ k a, s.CommandAtHead k a ∧ p k = true ∧
      s.commandStep p body = (body a).state.afterCommand k (body a).status (body a).data0 (body a).data1 := by
  by_cases h : s.nextStep = some .hostCommand
  · obtain ⟨hr, hf⟩ := commandReady_of_nextStep h
    cases hf' : s.cmd.fifo with
    | nil => exact absurd hf' hf
    | cons e rest =>
      by_cases hp : p e.kind = true
      · right
        have hh : s.CommandAtHead e.kind e.args := ⟨hr, by simp [hf']⟩
        exact ⟨_, _, hh, hp, by rw [commandStep_ready hh, if_pos hp]⟩
      · left
        unfold State.commandStep
        rw [if_pos h, hf']
        simp [hp]
  · left; simp [State.commandStep, h]

/-! ### New agent items -/

theorem dropHead_eq (s : State) (n : AgentId) (rest : List Item) : s.dropHead n rest = s.afterTaking n rest := rfl

theorem newItemStep_eq {s : State} {n : AgentId} {it : Item} {rest : List Item} (h : s.ports[n].line = it :: rest) :
    s.newItemStep n = ((s.afterTaking n rest).decideItem n it).serveBacklog := by
  simp [-Fin.getElem_fin, State.newItemStep, State.newItemDecided, h, dropHead_eq]

/-- A served port's head is taken where it satisfies the row's condition (R29). -/
theorem takeNewItem_serves {s : State} {n : AgentId} {it : Item} {rest : List Item} (h : s.ServesItem n it rest)
    (p : Item → Bool) :
    s.takeNewItem p = if p it then ((s.afterTaking n rest).decideItem n it).serveBacklog else s := by
  unfold State.takeNewItem
  rw [nextStep_newItem h.1, (chosenPort_eq_some s n).2 h.2.1]
  simp only [Option.map_some, h.2.2, newItemStep_eq h.2.2]

/-- A new agent item step changes nothing, or takes a served head. -/
theorem takeNewItem_cases (s : State) (p : Item → Bool) :
    s.takeNewItem p = s ∨ ∃ n it rest, s.ServesItem n it rest ∧ p it = true ∧
      s.takeNewItem p = ((s.afterTaking n rest).decideItem n it).serveBacklog := by
  by_cases hu : s.NoUrgentStep
  · by_cases hr : s.NewItemReady
    · cases hc : s.chosenPort with
      | none => left; simp [State.takeNewItem, nextStep_newItem hr, hc]
      | some n =>
        have hs := (chosenPort_eq_some s n).1 hc
        cases hl : s.ports[n].line with
        | nil => left; simp [-Fin.getElem_fin, State.takeNewItem, nextStep_newItem hr, hc, hl]
        | cons it rest =>
          have hi : s.ServesItem n it rest := ⟨hr, hs, hl⟩
          by_cases hp : p it = true
          · exact .inr ⟨n, it, rest, hi, hp, by rw [takeNewItem_serves hi, if_pos hp]⟩
          · left; rw [takeNewItem_serves hi, if_neg hp]
    · left
      have : ∀ n, s.nextStep ≠ some (.newItem n) := by
        intro n hn
        rw [nextStep_of_noUrgent hu] at hn
        split at hn
        · cases hn
        · split at hn
          · cases hn
          · rename_i h1 h2
            split at hn
            · rename_i h3
              exact hr ⟨hu, h3, by by_cases hf : s.cmd.fifo = []
                                   · exact .inl hf
                                   · exact .inr (by by_contra h4; exact h2 ⟨hf, by omega⟩)⟩
            · cases hn
      unfold State.takeNewItem
      split
      · rename_i n hn; exact absurd hn (this n)
      · rfl
  · left
    unfold State.takeNewItem
    rcases nextStep_of_urgent hu with h | ⟨n, h⟩ <;> simp [h]

end Sys2Proof.Machine
end

