-- ==== Sys2Proof/Laws/Operations.lean ====
section
/-! SUPPORT. What the shared operations do, each said once: reservations of frames, the entry of a key, issue, parking, removal,
the backlog, the highest eligible source. -/

namespace Sys2Proof.Machine

/-! ### Vectors and lists -/

/-- What each step of a fold leaves alone, the fold leaves alone. -/
theorem foldl_keeps {α β γ : Type} (f : α → β → α) (g : α → γ) (h : ∀ t p, g (f t p) = g t) (l : List β) :
    ∀ s, g (l.foldl f s) = g s := by
  induction l with
  | nil => intro s; rfl
  | cons p l ih => intro s; exact (ih _).trans (h s p)

/-! ### Entries and reservations -/

theorem inFrame_iff (r : Reservation) (b f) : (r.bank == b && frameOf r.line == f) = true ↔ r.InFrame b f := by
  simp only [Bool.and_eq_true, beq_iff_eq, Reservation.InFrame]
  apply and_congr_right; intro _
  have : (frameOf r.line).toNat = r.line.toNat / 4096 := by
    have := r.line.isLt
    simp [frameOf, BitVec.extractLsb'_toNat, Nat.shiftRight_eq_div_pow]; omega
  rw [← BitVec.toNat_inj, this]; omega

/-- Clearing the reservations of a set of frames. -/
theorem clearReservationsWhere_framesCleared (s : State) (p : AgentId → Reservation → Bool) (q : BitVec 4 → BitVec 20 → Prop)
   (h : ∀ n r, p n r = true ↔ ∃ b f, q b f ∧ r.InFrame b f) : s.FramesCleared q (s.clearReservationsWhere p).resv := by
  intro n
  rw [State.clearReservationsWhere_resv, mapIdx_fin, ← h n, ← Bool.and_eq_true]
  exact ⟨fun h => if_pos h, fun h => if_neg h⟩

/-- Clearing the reservations of one frame (R66). -/
theorem clearFrame_framesCleared (s : State) (b f) : s.FramesCleared (fun b' f' => b' = b ∧ f' = f) (s.clearFrame b f).resv := by
  apply clearReservationsWhere_framesCleared
  intro n r; rw [inFrame_iff]
  constructor
  · intro h; exact ⟨b, f, ⟨rfl, rfl⟩, h⟩
  · rintro ⟨_, _, ⟨rfl, rfl⟩, h⟩; exact h

/-- The entry of a key (R57). -/
theorem holder_eq_some {s : State} {k i} (h : s.KeyAt k i) : holder s.cache.entries k = some i :=
  findIdx_eq_of_unique (by simp only [h.1.2]; simpa using h.1.1) (by intro j hj; simp [-Fin.getElem_fin] at hj; exact h.2 j hj.1 hj.2)

/-- No entry has the key (R57). -/
theorem holder_eq_none {s : State} {k} (h : s.KeyAbsent k) : holder s.cache.entries k = none := by
  unfold holder; rw [findIdx_eq_none]; intro i
  by_cases hst : s.cache.entries[i].state = .empty
  · simp [-Fin.getElem_fin, hst]
  · simp [-Fin.getElem_fin, h i hst]

/-- A write concerns a line when the line holds one of its bytes (R96). -/
theorem writeConcerns_iff (wb : BitVec 4) (a : Word) (n : Nat) (b : BitVec 4) (l : Word) (hn : 1 ≤ n) :
   writeConcerns wb a n b l = true ↔ b = wb ∧ ∃ i < n, l.toNat ≤ a.toNat + i ∧ a.toNat + i < l.toNat + 32 := by
  simp only [writeConcerns, Bool.and_eq_true, decide_eq_true_eq]
  constructor
  · rintro ⟨⟨rfl, h1⟩, h2⟩
    refine ⟨rfl, l.toNat - a.toNat, ?_, ?_⟩ <;> omega
  · rintro ⟨rfl, i, h1, h2, h3⟩; exact ⟨⟨rfl, by omega⟩, by omega⟩

/-! ### Issue -/

/-- An issued request takes the lowest free gateway tag (R30, R107, R108). -/
theorem State.issue_eq (s : State) (r c b a g) (h : s.LowestFree g) : s.issue r c b a = { s with sys := { s.sys with
        table := s.sys.table.set g (some (r.outRecord c))
        sendq := s.sys.sendq ++ [r.downRequest g b a] } } := by
  simp only [State.issue, (freeTag_eq_some s g).2 h]

/-- Read data cut or filled to the length of the record (R109). -/
theorem fitData_eq (n : Nat) (d : List Byte) : fitData n d = (List.range n).map fun i => d.getD i 0 := by
  apply List.ext_getElem?
  intro i
  simp only [fitData, List.getElem?_take, List.getElem?_map, List.getD_eq_getElem?_getD]
  by_cases hi : i < n
  · rw [if_pos hi, List.getElem?_range hi]
    by_cases hd : i < d.length
    · simp [List.getElem?_append_left hd, hd]
    · rw [List.getElem?_append_right (by omega), List.getElem?_replicate, if_pos (by omega)]
      simp [hd]
  · rw [if_neg hi]; simp; omega

theorem unsent_eq_false (s : State) (g r) (h : s.Sent g r) : s.sys.unsent g = false := by
  simp [SysPort.unsent]; exact h.2

/-! ### Parking -/

/-- A record is placed behind those admitted before it and before those admitted later (R79). -/
theorem insertByOrder_split (p : Parked) (l : List Parked) : ∃ b a, l = b ++ a ∧ (∀ q ∈ b, q.item.ord ≤ p.item.ord) ∧ (∀ q ∈ a.head?, p.item.ord < q.item.ord) ∧ insertByOrder p l = b ++ p :: a := by
  induction l with
  | nil => exact ⟨[], [], rfl, by simp, by simp, rfl⟩
  | cons q qs ih =>
    by_cases h : p.item.ord < q.item.ord
    · exact ⟨[], q :: qs, rfl, by simp, by simpa using h, by simp [insertByOrder, h]⟩
    · obtain ⟨b, a, h1, h2, h3, h4⟩ := ih
      refine ⟨q :: b, a, by simp [h1], ?_, h3, by simp [insertByOrder, h, h4]⟩
      intro x hx
      rcases List.mem_cons.1 hx with rfl | hx
      · omega
      · exact h2 x hx

theorem hasMember_iff (m : MissBlock) (k : Key) : m.hasMember k = true ↔ ∃ x ∈ m.members, x.key = k := by simp [MissBlock.hasMember]

/-- A report enters the queue, or goes on into an empty latch (R83, R84). -/
theorem MissBlock.enter_eq (m : MissBlock) (r : Report) (h : m.latch = none → m.queue = []) :
   m.enter r = { (if m.latch = none ∧ r.notParked = false then m.setMember r.key .presented else m) with
     queue := if m.latch = none then [] else m.queue ++ [r]
     latch := if m.latch = none then some ⟨r, false⟩ else m.latch } := by
  unfold MissBlock.enter MissBlock.present
  cases hl : m.latch with
  | none => simp only [h hl, List.nil_append]; cases r.notParked <;> simp [MissBlock.setMember]
  | some l => simp

/-- Removing parked records, with the members and reports that go with them (R80, R85). -/
theorem MissBlock.remove_removedFrom (m : MissBlock) (p : Parked → Bool) : m.RemovedFrom p (m.remove p) := by
  refine ⟨rfl, ?_, ?_, ?_, rfl⟩
  · simp [MissBlock.remove]; rfl
  · simp [MissBlock.remove]; rfl
  · simp [MissBlock.remove]; congr 1; funext l
    simp only [Latched.withdraw]; congr 1; simp

theorem setMember_setMember (m : MissBlock) (k : Key) (a b : ReportState) : ((m.setMember k a).setMember k b) = m.setMember k b := by
  unfold MissBlock.setMember; simp; intro x hx; split <;> simp_all

/-! ### The backlog -/

/-- How many members are Unreported. -/
def MissBlock.unreported (m : MissBlock) : Nat := m.members.countP fun x => decide (x.state = .unreported)

theorem reportMember_latch (m : MissBlock) (p : Parked) (h : m.latch = none → m.queue = []) :
   (m.reportMember p).latch = none → (m.reportMember p).queue = [] := by
  unfold MissBlock.reportMember
  rw [MissBlock.enter_eq _ _ (by simpa [MissBlock.setMember] using h)]
  simp only [MissBlock.setMember]
  by_cases hl : m.latch = none <;> simp [hl]

theorem reportMember_members (m : MissBlock) (p : Parked) (h : m.latch = none → m.queue = []) :
   (m.reportMember p).members = m.members.map fun x => if x.key = p.item.key then { x with state := m.enteredState } else x := by
  unfold MissBlock.reportMember
  rw [MissBlock.enter_eq _ _ (by simpa [MissBlock.setMember] using h)]
  by_cases hl : m.latch = none
  · have : (p.item.report.key) = p.item.key := rfl
    have h2 : p.item.report.notParked = false := rfl
    simp only [MissBlock.setMember, hl, h2, this, and_self, if_true, List.map_map, MissBlock.enteredState]
    apply List.map_congr_left; intro x _; simp only [Function.comp]; split <;> simp_all
  · simp [MissBlock.setMember, hl, MissBlock.enteredState]

/-- Each service of the backlog leaves fewer Unreported members (R86). -/
theorem unreported_reportMember_lt (m : MissBlock) (p : Parked) (h : m.latch = none → m.queue = []) (hu : m.UnreportedAt p) : MissBlock.unreported (m.reportMember p) < MissBlock.unreported m := by
  unfold MissBlock.unreported
  rw [reportMember_members m p h, List.countP_map]
  obtain ⟨x, hx, hk, hst⟩ := hu
  have hes : m.enteredState ≠ .unreported := by unfold MissBlock.enteredState; split <;> simp
  have hle : ∀ l : List Member, l.countP ((fun x => decide (x.state = .unreported)) ∘ fun x => if x.key = p.item.key then { x with state := m.enteredState } else x) ≤ l.countP fun x => decide (x.state = .unreported) := by
    intro l; apply List.countP_mono_left; intro y _ hy
    simp only [Function.comp] at hy; split at hy
    · simp [hes] at hy
    · exact hy
  obtain ⟨l1, l2, e⟩ := List.append_of_mem hx
  rw [e]
  simp only [List.countP_append, List.countP_cons]
  have a1 := hle l1
  have a2 := hle l2
  simp [hk, hst, hes] at *
  omega

theorem backlogHead_eq_some (m : MissBlock) (p : Parked) (before after) (h : m.parked = before ++ p :: after) (hp : m.UnreportedAt p) (hb : ∀ q ∈ before, ¬ m.UnreportedAt q) : m.backlogHead = some p := by
  unfold MissBlock.backlogHead
  have hi : ∀ q : Parked, (m.members.any fun x => decide (x.key = q.item.key) && decide (x.state = .unreported)) = true ↔ m.UnreportedAt q := by
    intro q; simp [MissBlock.UnreportedAt]
  rw [h, List.find?_append, List.find?_eq_none.2, Option.none_or, List.find?_cons, (hi p).2 hp]
  intro q hq; rw [hi]; exact hb q hq

theorem backlogHead_unreported (m : MissBlock) (p) (h : m.backlogHead = some p) : m.UnreportedAt p := by
  unfold MissBlock.backlogHead at h
  have := List.find?_some h
  simpa [MissBlock.UnreportedAt] using this

/-- The backlog is served to its end: more serve_fuel than Unreported members changes nothing (R86). -/
theorem serve_fuel (n : Nat) : ∀ (m : MissBlock) (k : Nat), (m.latch = none → m.queue = []) → MissBlock.unreported m ≤ n → MissBlock.unreported m ≤ k → m.serve n = m.serve k := by
  induction n with
  | zero =>
    intro m k h h1 h2
    have hn : m.backlogHead = none := by
      cases hh : m.backlogHead with
      | none => rfl
      | some p => have := unreported_reportMember_lt m p h (backlogHead_unreported m p hh); omega
    cases k with
    | zero => rfl
    | succ k => simp [MissBlock.serve, hn]
  | succ n ih =>
    intro m k h h1 h2
    cases hh : m.backlogHead with
    | none => cases k <;> simp [MissBlock.serve, hh]
    | some p =>
      have hl := unreported_reportMember_lt m p h (backlogHead_unreported m p hh)
      cases k with
      | zero => omega
      | succ k =>
        simp only [MissBlock.serve, hh]
        rw [ih (m.reportMember p) k (reportMember_latch m p h) (by omega) (by omega)]

/-- A service that has nothing to report, or no room, changes nothing (R86). -/
theorem MissBlock.serve_of_not_servable (m : MissBlock) (h : m.servable = false) (n : Nat) : m.serve n = (m, false) := by
  cases n with
  | zero => rfl
  | succ n =>
    unfold MissBlock.servable at h
    unfold MissBlock.serve
    split
    · rename_i hq; cases hh : m.backlogHead with
      | none => rfl
      | some p => simp [hq, hh] at h
    · rfl

/-- A service reports a member: the queue has room and an Unreported member has a record (R86). -/
theorem servable_iff (m : MissBlock) : m.servable = true ↔ m.queue.length < 8 ∧ ∃ p ∈ m.parked, m.UnreportedAt p := by
  unfold MissBlock.servable MissBlock.backlogHead
  rw [Bool.and_eq_true, decide_eq_true_eq, List.find?_isSome]
  simp [MissBlock.UnreportedAt]

theorem serveBacklog_of_not_servable (s : State) (h : s.miss.servable = false) : s.serveBacklog = s := by
  unfold State.serveBacklog; rw [MissBlock.serve_of_not_servable _ h]; rfl

/-- BACKLOG_SERVICE changes nothing, or is the next step, whose end reports a member (R86). -/
theorem execBacklogService_cases (s : State) :
    execBacklogService s = .next s ∨
      ∃ u, s.beforeService = some u ∧ u.miss.servable = true ∧ execBacklogService s = .next u.serveBacklog := by
  unfold execBacklogService
  cases h : s.beforeService with
  | none => exact .inl rfl
  | some u =>
    by_cases hs : u.miss.servable = true
    · exact .inr ⟨u, rfl, hs, by simp [hs]⟩
    · exact .inl (by simp [hs])

/-! ### Events -/

/-- Eligibility of a source (R136). -/
theorem eligible_source_iff (e : EventBlock) (x : Source) : e.eligible x = true ↔ e.Eligible x := by
  unfold EventBlock.eligible EventBlock.Eligible Source.isIn levelRank
  cases hl : e.level with
  | none => cases x <;> simp [Source.rank]
  | some y => simp [and_assoc]

theorem Source.mem_all (x : Source) : x ∈ Source.all := by cases x <;> decide

/-- The eligible source of smallest rank (R136). -/
theorem highest_eq_some (e : EventBlock) (x : Source) (h : e.Eligible x) (hm : ∀ y, e.Eligible y → x.rank ≤ y.rank) : e.highest = some x := by
  unfold EventBlock.highest
  have hn : ∀ y, y.rank < x.rank → e.eligible y = false := by
    intro y hy; by_contra hc; have := hm y ((eligible_source_iff _ _).1 (by simpa using hc)); omega
  have hx := (eligible_source_iff e x).2 h
  have key : ∀ l : List Source, x ∈ l → (l.Pairwise fun a b => a.rank < b.rank) → l.find? e.eligible = some x := by
    intro l; induction l with
    | nil => simp
    | cons a l ih =>
      intro hmem hpw
      rw [List.pairwise_cons] at hpw
      rcases List.mem_cons.1 hmem with rfl | hmem
      · simp [hx]
      · rw [List.find?_cons, hn a (hpw.1 x hmem)]; exact ih hmem hpw.2
  exact key _ (Source.mem_all x) (by decide)

end Sys2Proof.Machine
end

