-- ==== Sys2Proof/Tests/Slice0.lean ====
section
/-! SUPPORT. The tests: the well-formedness smoke, one small step for each row of the table, with its expected result taken
from the rule it names, and for each statement with hypotheses a state and operands that meet them. -/

namespace Sys2Proof.Tests
open Sys2Proof Sys2Proof.Machine

/-! ### Helpers -/

/-- The outcome is a next state that satisfies `p`. -/
def holds (o : Host.Outcome State Fault Refusal) (p : State → Bool) : Bool :=
  match o with
  | .next t => p t
  | .fault _ => false
  | .refused _ => false

/-- A memory request of a kind at an address, with a length and its data. -/
def req (k : AccessKind) (addr : Word) (len : BitVec 7) : Access :=
  { kind := k, addr := addr, len := len, data := if k.isWriteType then List.replicate len.toNat 0xAB else [] }

/-- A Valid entry: segment 5, page 2, bank 1, frame 0x12, DataWrite, RL 3, WL 2, pid 7. -/
def page : Entry :=
  { state := .valid, key := ⟨5, 2⟩, bank := 1, frame := 0x12, pageType := .dataWrite, readLevel := 3, writeLevel := 2,
    pid := 7, pinned := false, referenced := false, modified := false }

/-- A context whose slot 0 holds segment 5 and whose protection-id slot 0 holds pid 7; privilege 2. -/
def context : Context :=
  { segs := #v[5, 0, 0, 0], pids := #v[⟨7, false⟩, ⟨0, false⟩, ⟨0, false⟩, ⟨0, false⟩], privilege := 2,
    mode := .translated, policy := .park, suspended := false }

/-- The reset state with every context as `context`, every agent bound to context 1, and `page` as entry 3. -/
def mapped : State :=
  { State.reset with
    contexts := Vector.replicate 16 context
    bindings := Vector.replicate 8 (some 1)
    cache := { entries := (Vector.replicate 64 Entry.cleared).set 3 page, pointer := 0 } }

/-- An item with agent tag 1. -/
def item (b : Body) : Item := { seq := 0, ord := 0, tag := 1, body := b, malformed := false, conflict := false }

/-- `s` with the items `l` waiting at port 2 and tag 1 in use there. -/
def waiting (s : State) (l : List Item) : State :=
  { s with ports := s.ports.set 2 { Port.initial with line := l, tags := 0x2 } }

/-- A record parked under segment 5, page 9, by agent 2 with tag 1. -/
def parked (age : Nat) : Parked :=
  ⟨{ seq := 0, ord := 0, agent := 2, tag := 1, ctx := 1, acc := req .read 0x9000 4, key := ⟨5, 9⟩ }, age⟩

/-- `s` with `parked age` as the one parked record, its member Unreported. -/
def parking (s : State) (age : Nat) : State :=
  { s with
    ports := s.ports.set 2 { Port.initial with tags := 0x2 }
    miss := { s.miss with parked := [parked age], members := [⟨⟨5, 9⟩, .unreported⟩] } }

/-- `s` with one command of kind `k` at the head of the FIFO. -/
def issued (s : State) (k : Byte) (a : Vector Word 4) : State :=
  { s with cmd := { s.cmd with fifo := [⟨k, a⟩] } }

/-- An outstanding record of agent 2 with tag 1. -/
def record (k : AccessKind) (orphaned : Bool) : OutRecord :=
  { agent := 2, tag := 1, kind := k, ctx := 1, addr := 0x2010, len := 4, orphaned := orphaned }

/-- `s` with `record k orphaned` at gateway tag 0, sent. -/
def outstanding (s : State) (k : AccessKind) (orphaned : Bool) : State :=
  { s with
    ports := s.ports.set 2 { Port.initial with tags := 0x2, flush := if orphaned then 1 else 0 }
    sys := { s.sys with table := s.sys.table.set 0 (some (record k orphaned)) } }

/-- `s` with the timer running from `clock` in `mode`. -/
def ticking (s : State) (clock : TimerClock) (mode : TimerMode) (count compare : BitVec 12) : State :=
  { s with timer := { s.timer with clock := clock, mode := mode, run := true, count := count, compare := compare } }

/-- A report of segment 5, page 9. -/
def report (notParked : Bool) : Report := { key := ⟨5, 9⟩, agent := 2, ctx := 1, kind := .read, notParked := notParked }

/-! ### Well-formedness -/

theorem test_write_data_fits_its_length :
    (Instr.admission 0 ⟨0, .access (req .write 0x100 4)⟩).wellFormed = true := by decide
theorem test_short_write_data_is_ill_formed :
    (Instr.admission 0 ⟨0, .access { req .write 0x100 4 with data := [1, 2, 3] }⟩).wellFormed = false := by decide
theorem test_read_with_data_is_ill_formed :
    (Instr.admission 0 ⟨0, .access { req .read 0x100 4 with data := [1, 2, 3, 4] }⟩).wellFormed = false := by decide
theorem test_write_of_length_zero_carries_none :
    (Instr.admission 0 ⟨0, .access { req .write 0x100 0 with data := [] }⟩).wellFormed = true := by decide
theorem test_ill_formed_admission_stops :
    exec (.admission 0 ⟨0, .access { req .read 0x100 4 with data := [1] }⟩) State.reset = .fault .linkBroken := rfl

/-! ### The queue -/

theorem test_step_runs_front_of_queue :
    holds (step { State.reset with pending := [.srstNLow, .srstNHigh] })
      (fun t => t.power.hold && decide (t.pending = [.srstNHigh])) = true := by decide
theorem test_empty_queue_counts_one_period :
    holds (step State.reset) (fun t => decide (t.epoch.divider = 1) && decide (t.epoch.count = 0)) = true := by decide
theorem test_no_word_spells_a_command : State.reset.withFetchWord 32 0x06200001 = State.reset := rfl

/-! ### Resets and pins -/

theorem test_power_on_reset_reads_pins :
    holds (exec (.powerOnReset ⟨false, 0xFE, true, false, false⟩) mapped)
      (fun t => t.power.hold && decide (t.portState 0 = .reset) && decide (t.portState 1 = .held) && t.ev.eva.filtered &&
        !t.ev.evb.filtered && decide (t.bindings[2] = none)) = true := by decide
theorem test_power_on_config_value : State.reset.readValue 0x08 = 0x00000801 := by decide
theorem test_identity_value : State.reset.readValue 0x00 = 0x06200001 := by decide
theorem test_agrst_low_enters_reset :
    holds (exec (.agrstNAssertion 3) State.reset)
      (fun t => decide (t.portState 3 = .reset) && t.ports[3].resetPending) = true := by decide
theorem test_agrst_high_keeps_pending_reset :
    holds (exec (.agrstNRelease 3) { State.reset with
        ports := State.reset.ports.set 3 { Port.initial with resetLow := true, resetPending := true } })
      (fun t => decide (t.portState 3 = .reset) && !t.ports[3].resetLow) = true := by decide
theorem test_port_reset_step_discards :
    holds (exec .portResetStep { outstanding mapped .read false with
        ports := State.reset.ports.set 2 { Port.initial with line := [item (.signal 1)], tags := 0x3, resetPending := true } })
      (fun t => decide (t.ports[2] = { Port.initial with flush := 1 }) && decide (t.portState 2 = .flushing) &&
        decide (t.out = [])) = true := by decide
theorem test_srst_low_holds_ports :
    holds (exec .srstNLow State.reset) (fun t => decide (t.portState 0 = .held) && !t.power.resetArmed) = true := by decide
theorem test_srst_rising_arms :
    holds (exec .srstNHigh { State.reset with power := { State.reset.power with hold := true } })
      (fun t => !t.power.hold && t.power.resetArmed) = true := by decide
theorem test_port_ready_ends_waking :
    holds (exec (.portReady true) { State.reset with power := { State.reset.power with device := .waking } })
      (fun t => decide (t.power.device = .operational)) = true := by decide

/-! ### Agent links and the decision point -/

theorem test_admission_numbers_and_occupies :
    holds (exec (.admission 2 ⟨1, .access (req .read 0x2010 4)⟩) mapped)
      (fun t => decide (t.ports[2].line = [item (.access (req .read 0x2010 4))]) && decide (t.ports[2].tags = 2) &&
        decide (t.admSeq = 1)) = true := by decide
theorem test_admission_marks_block_crossing :
    holds (exec (.admission 2 ⟨1, .access (req .read 0x203E 4)⟩) mapped)
      (fun t => t.ports[2].line.all (·.malformed)) = true := by decide
theorem test_request_step_issues_translated :
    holds (exec .newAgentItemStep (waiting mapped [item (.access (req .read 0x2010 4))]))
      (fun t => decide (t.sys.sendq = [⟨0, .read, 1, 0x12010, 4, []⟩]) && t.cache.entries[3].referenced &&
        !t.cache.entries[3].modified && decide (t.dp.pointer = 3)) = true := by decide
theorem test_request_step_parks_miss :
    holds (exec .newAgentItemStep (waiting mapped [item (.access (req .read 0x9000 4))]))
      (fun t => decide (t.miss.parked = [parked 0]) && decide (t.miss.latch = some ⟨report false, false⟩) &&
        decide (t.ev.requests = 0x004)) = true := by decide
theorem test_signal_writes_mailbox :
    holds (exec .signal (waiting mapped [item (.signal 0x5A)]))
      (fun t => decide (t.ev.mail[2] = ⟨0x5A, 1, true⟩) && decide (t.out = [.response 2 1 (.done [])]) &&
        decide (t.ports[2].tags = 0)) = true := by decide
theorem test_tag_in_use_is_only_logged :
    holds (exec .tagInUse (waiting mapped [{ item (.signal 0x5A) with conflict := true }]))
      (fun t => decide (t.out = []) && decide (t.ports[2].tags = 2) && decide (t.readValue 0x4C = 0x00018512)) = true := by
  decide
theorem test_replay_step_decides_afresh :
    holds (exec .replayStep { mapped with
        ports := mapped.ports.set 2 { Port.initial with tags := 2 }
        dp := { mapped.dp with replay := [{ (parked 0).item with acc := req .write 0x2010 4 }] } })
      (fun t => decide (t.sys.sendq = [⟨0, .write, 1, 0x12010, 4, [0xAB, 0xAB, 0xAB, 0xAB]⟩]) &&
        t.cache.entries[3].modified && decide (t.dp.pointer = 0)) = true := by decide
theorem test_conditional_write_without_reservation :
    holds (exec .newAgentItemStep (waiting mapped [item (.access (req .conditionalWrite 0x2010 4))]))
      (fun t => decide (t.out = [.response 2 1 .condFail]) && decide (t.sys.sendq = []) && t.cache.entries[3].referenced &&
        !t.cache.entries[3].modified) = true := by decide

/-! ### The system port -/

theorem test_downstream_request_leaves_queue :
    holds (exec .downstreamRequest { State.reset with sys := { State.reset.sys with
        sendq := [⟨0, .read, 1, 0x12010, 4, []⟩, ⟨1, .read, 1, 0x12014, 4, []⟩] } })
      (fun t => decide (t.out = [.downstream ⟨0, .read, 1, 0x12010, 4, []⟩]) && decide (t.sys.sendq.length = 1)) = true := by
  decide
theorem test_short_read_data_is_filled :
    holds (exec (.downstreamResponse 0 .ok [1, 2]) (outstanding mapped .read false))
      (fun t => decide (t.out = [.response 2 1 (.done [1, 2, 0, 0])]) && decide (t.sys.table[0] = none)) = true := by decide
theorem test_response_for_free_tag_is_stray :
    holds (exec (.downstreamResponse 5 .error []) State.reset) (fun t => t.sys.stray && decide (t.out = [])) = true := by
  decide

/-! ### Epochs and parking -/

theorem test_epoch_event_requests_step :
    holds (exec .epochEvent { State.reset with epoch := { State.reset.epoch with armed := true, count := 0xFFFF } })
      (fun t => t.epoch.flag && decide (t.epoch.count = 0) && decide (t.dp.epoch = some false)) = true := by decide
theorem test_epoch_step_performs_soft_reset :
    holds (exec .epochStep { waiting mapped [item (.signal 1)] with
        dp := { mapped.dp with epoch := some false }, power := { mapped.power with resetArmed := true } })
      (fun t => decide (t.out = [.response 2 1 (.fault .resetAbort)]) && t.power.softResetSeen && !t.power.resetArmed &&
        t.epoch.flag && decide (t.bindings[2] = some 1)) = true := by decide
theorem test_read_coincident_mark_defers_soft_reset :
    holds (exec .epochStep { mapped with
        dp := { mapped.dp with epoch := some true }, power := { mapped.power with resetArmed := true } })
      (fun t => t.power.resetArmed && decide (t.dp.epoch = none)) = true := by decide
theorem test_miss_timeout_at_eight_epochs :
    holds (exec .missTimeout { parking mapped 7 with dp := { mapped.dp with epoch := some false } })
      (fun t => decide (t.out = [.response 2 1 (.fault .missTimeout)]) && decide (t.miss.parked = []) &&
        decide (t.miss.members = []) && decide (t.log.records.length = 1)) = true := by decide
theorem test_reservation_expires_at_lifetime :
    holds (exec .reservationExpiry { mapped with
        dp := { mapped.dp with epoch := some false }, config := { mapped.config with lifetime := 2 },
        resv := (mapped.resv.set 0 ⟨true, 1, 0x12000, 1⟩).set 1 ⟨true, 1, 0x12000, 0⟩ })
      (fun t => decide (t.resv[0] = Reservation.cleared) && decide (t.resv[1] = ⟨true, 1, 0x12000, 1⟩)) = true := by decide
theorem test_backlog_is_served_at_the_end_of_a_step :
    holds (exec .backlogService (issued (parking mapped 0) 6 #v[0, 0, 0, 0]))
      (fun t => decide (t.miss.members = [⟨⟨5, 9⟩, .presented⟩]) && decide (t.miss.latch = some ⟨report false, false⟩) &&
        decide (t.ev.requests = 0x044) && decide (t.cmd.fifo = [])) = true := by decide
theorem test_backlog_waits_while_no_step_is_ready :
    holds (exec .backlogService (parking mapped 0)) (fun t => decide (t = parking mapped 0)) = true := by decide
theorem test_miss_pop_consumes_member :
    holds (exec (.missPop 0) { parking mapped 0 with miss := { (parking mapped 0).miss with
        members := [⟨⟨5, 9⟩, .presented⟩], latch := some ⟨report false, false⟩ } })
      (fun t => decide (t.miss.members = [⟨⟨5, 9⟩, .consumed⟩]) && decide (t.miss.latch = none)) = true := by decide

/-! ### Host commands -/

/-- The one result record left by a command has this status and these data. -/
def answers (c : Instr) (s : State) (st : Status) (d0 d1 : Word) : Bool :=
  holds (exec c s) fun t => decide (t.cmd.results.map (fun r => (r.status, r.data0, r.data1)) = [(st, d0, d1)]) &&
    decide (t.cmd.fifo = [])

theorem test_insert_address_takes_lowest_empty :
    answers .insertAddress (issued mapped 1 #v[6, 4, 0x34, 0x10002]) .ok 0 1 = true := by decide
theorem test_insert_address_reuses_entry :
    answers .insertAddress (issued mapped 1 #v[5, 2, 0x34, 2]) .ok 3 0 = true := by decide
theorem test_insert_rights_releases_parked :
    holds (exec .insertRights { issued (parking mapped 0) 2 #v[5, 9, 0x00070001, 0x00020003] with
        cache := { mapped.cache with
          entries := mapped.cache.entries.set 8 { Entry.cleared with state := .addressOnly, key := ⟨5, 9⟩, frame := 0x77 } } })
      (fun t => decide (t.dp.replay = [(parked 0).item]) && decide (t.miss.members = []) &&
        decide (t.cache.entries[8].readLevel = 3) && decide (t.cache.entries[8].writeLevel = 2) &&
        decide (t.cache.entries[8].pid = 7) && decide (t.cache.entries[8].pageType = .dataWrite) &&
        decide (t.cmd.results.map (fun r => (r.data0, r.data1)) = [(1, 8)])) = true := by decide
theorem test_purge_entry_reports_valid :
    answers .purgeEntry (issued mapped 3 #v[5, 2, 0, 0]) .ok 3 8 = true := by decide
theorem test_purge_segment_counts :
    answers .purgeSegment (issued mapped 4 #v[5, 0, 0, 0]) .ok 1 0 = true := by decide
theorem test_purge_all_of_empty_cache :
    answers .purgeAll (issued State.reset 5 #v[1, 0, 0, 0]) .ok 0 0 = true := by decide
theorem test_read_entry_layout :
    answers .readEntry (issued mapped 6 #v[3, 1, 0, 0]) .ok 0x01000012 0x00070132 = true := by decide
theorem test_probe_reports_physical_address :
    answers .probe (issued mapped 7 #v[1, 0x2010, 0, 0]) .ok 0x12010 1 = true := by decide
theorem test_probe_reports_entry_after_hit :
    answers .probe (issued mapped 7 #v[1, 0x2010, 2, 0]) .faulted 10 4 = true := by decide
theorem test_bind_agent_binds :
    holds (exec .bindAgent (issued State.reset 8 #v[7, 15, 0, 0])) (fun t => decide (t.bindings[7] = some 15)) = true := by
  decide
theorem test_bind_agent_already_bound :
    answers .bindAgent (issued mapped 8 #v[2, 1, 0, 0]) .alreadyBound 1 0 = true := by decide
theorem test_unbind_agent_busy :
    answers .unbindAgent (issued (parking mapped 0) 9 #v[2, 0, 0, 0]) .agentBusy 1 0 = true := by decide
theorem test_write_context_answers_old_value :
    answers .writeContext (issued mapped 10 #v[1, 4, 0x10009, 0]) .ok 7 0 = true := by decide
theorem test_write_context_pid_slot :
    holds (exec .writeContext (issued mapped 10 #v[1, 4, 0x10009, 0]))
      (fun t => decide (t.contexts[1].pids[0] = ⟨9, true⟩) && decide (t.contexts[2] = context)) = true := by decide
theorem test_read_context_bound_agents :
    answers .readContext (issued mapped 11 #v[1, 12, 0, 0]) .ok 0xFF 0 = true := by decide
theorem test_suspend_context_sets_flag :
    holds (exec .suspendContext (issued mapped 12 #v[1, 0, 0, 0])) (fun t => t.contexts[1].suspended) = true := by decide
theorem test_resume_context_answers_old_flag :
    answers .resumeContext (issued { mapped with contexts := mapped.contexts.set 1 { context with suspended := true } } 13
      #v[1, 0, 0, 0]) .ok 1 0 = true := by decide
theorem test_abort_parked_counts :
    answers .abortParked (issued (parking mapped 0) 14 #v[5, 9, 0, 0]) .ok 1 0 = true := by decide
theorem test_clear_reservation_answers_valid :
    answers .clearReservation (issued { mapped with resv := mapped.resv.set 4 ⟨true, 0, 0x40, 2⟩ } 15 #v[4, 0, 0, 0]) .ok 1 0
      = true := by decide
theorem test_enter_standby_from_idle :
    holds (exec .enterStandby (issued State.reset 16 #v[0, 0, 0, 0])) (fun t => t.portSleep) = true := by decide
theorem test_arm_soft_reset_twice :
    answers .armSoftReset (issued { State.reset with power := { State.reset.power with resetArmed := true } } 17
      #v[0, 0, 0, 0]) .alreadyPending 0 0 = true := by decide
theorem test_kind_eighteen_is_bad : answers .badCommand (issued State.reset 18 #v[0, 0, 0, 0]) .badCommand 0 0 = true := by
  decide
theorem test_truncated_agent_is_bad_argument :
    answers .bindAgent (issued State.reset 8 #v[0x100, 0, 0, 0]) .badArgument 0 0 = true := by decide

/-! ### Host accesses -/

theorem test_cmd_issue_captures_arguments :
    holds (exec (.cmdIssue 0x108) { State.reset with cmd := { State.reset.cmd with args := #v[1, 2, 3, 4] } })
      (fun t => decide (t.cmd.fifo = [⟨8, #v[1, 2, 3, 4]⟩]) && decide (t.out = [.writeDone])) = true := by decide
theorem test_cmd_issue_drops_fifth :
    holds (exec (.cmdIssue 8) { State.reset with cmd := { State.reset.cmd with fifo := List.replicate 4 ⟨8, #v[0, 0, 0, 0]⟩ } })
      (fun t => t.cmd.dropped && decide (t.ev.requests = 1) && decide (t.cmd.fifo.length = 4)) = true := by decide
theorem test_result_pop_on_empty : holds (exec (.resultPop 1) State.reset) (fun t => decide (t.cmd = State.reset.cmd)) = true := by
  decide
theorem test_fault_pop_keeps_sequence :
    holds (exec (.faultPop 0) (State.reset.addFault .miss 0 (some 1) 2 (.access .read) 0x10))
      (fun t => decide (t.log = ⟨[], 1, 0⟩) && decide (t.ev.requests = 8)) = true := by decide
theorem test_cmd_dropped_set_wins :
    holds (exec (.cmdDroppedClear 0x100 true) State.reset) (fun t => t.cmd.dropped) = true := by decide
theorem test_event_raise_bits : holds (exec (.eventRaise 0x3FF) State.reset) (fun t => decide (t.ev.requests = 0x1FF)) = true := by
  decide
theorem test_event_clear_loses_to_raise :
    holds (exec (.eventClear 0x3FE 0x020) { State.reset with ev := { State.reset.ev with requests := 0x1FF } })
      (fun t => decide (t.ev.requests = 0x020)) = true := by decide
theorem test_event_permit_bits : holds (exec (.eventPermit 0x012) State.reset) (fun t => decide (t.ev.permits = 9)) = true := by
  decide
theorem test_deliver_enable_asserts_hirq :
    holds (exec (.deliverEnable 1) { State.reset with ev := { State.reset.ev with requests := 8, permits := 8 } })
      (fun t => t.hirq) = true := by decide
theorem test_claim_takes_smallest_rank :
    holds (exec .claim { State.reset with ev := { State.reset.ev with requests := 0x0C, permits := 0x0C, deliver := true } })
      (fun t => decide (t.out = [.readData 0x74 3]) && decide (t.ev.requests = 8) && !t.ev.deliver &&
        decide (t.ev.level = some .missReport) && decide (t.ev.stack = [⟨none, 0x0C⟩])) = true := by decide
theorem test_complete_on_empty_underflows :
    holds (exec (.complete 1) State.reset)
      (fun t => t.ev.underflow && t.ev.deliver && decide (t.ev.requests = 1) && decide (t.ev.level = none)) = true := by decide
theorem test_service_status_clears_one_flag :
    holds (exec (.serviceStatusClear 0x100) { State.reset with ev := { State.reset.ev with overflow := true, underflow := true } })
      (fun t => !t.ev.overflow && t.ev.underflow) = true := by decide
theorem test_polarity_write_raises :
    holds (exec (.extEventConfig 1) State.reset) (fun t => decide (t.ev.requests = 2)) = true := by decide
theorem test_pin_change_starts_filter :
    holds (exec (.evPinChange .evb true) State.reset)
      (fun t => decide (t.ev.evb.filter = .counting true 0) && !t.ev.evb.filtered) = true := by decide
theorem test_filtered_change_raises :
    holds (exec (.filteredLevelChange .evb) { State.reset with ev := { State.reset.ev with
        evb := { State.reset.ev.evb with pin := true, filter := .counting true 1 } } })
      (fun t => t.ev.evb.filtered && decide (t.ev.requests = 0x080)) = true := by decide
theorem test_signal_code_read_keeps_code :
    holds (exec (.signalCodeRead 2) { State.reset with ev := { State.reset.ev with mail := State.reset.ev.mail.set 2 ⟨0x5A, 15, true⟩ } })
      (fun t => decide (t.out = [.readData 0x90 0x8F5A]) && decide (t.ev.mail[2] = ⟨0x5A, 0, false⟩)) = true := by decide
theorem test_epoch_status_read_returns_old :
    holds (exec (.epochStatusRead false) { State.reset with epoch := { State.reset.epoch with count := 3 } })
      (fun t => decide (t.out = [.readData 0x0C 3]) && t.epoch.armed) = true := by decide
theorem test_device_config_restarts_divider :
    holds (exec (.deviceConfig 0x000F0C02) { State.reset with epoch := { State.reset.epoch with divider := 9 } })
      (fun t => decide (t.config = ⟨2, 12, 15⟩) && decide (t.epoch.divider = 0)) = true := by decide
theorem test_timer_control_restarts_prescaler :
    holds (exec (.timerControl 0x12) { State.reset with timer := { State.reset.timer with prescaler := 5, run := true } })
      (fun t => decide (t.timer.clock = .us256) && t.timer.run && decide (t.timer.prescaler = 0)) = true := by decide
theorem test_reset_action_clears_count :
    holds (exec (.resetAction 0x111) (ticking State.reset .us16 .modulo 77 4095))
      (fun t => decide (t.timer.count = 0) && t.timer.run) = true := by decide
theorem test_timer_compare_zero_is_ignored :
    holds (exec (.timerCompare 0xF000) State.reset) (fun t => decide (t.timer.compare = 4095)) = true := by decide
theorem test_timer_status_clears_overflow :
    holds (exec (.timerStatusClear 1 false) { State.reset with timer := { State.reset.timer with overflow := true } })
      (fun t => !t.timer.overflow) = true := by decide
theorem test_timer_tick_counts :
    holds (exec .timerTick (ticking State.reset .us1 .modulo 5 9)) (fun t => decide (t.timer.count = 6)) = true := by decide
theorem test_interval_match_returns_to_zero :
    holds (exec .intervalMatch (ticking State.reset .us1 .modulo 8 9))
      (fun t => decide (t.timer.count = 0) && decide (t.ev.requests = 0x020)) = true := by decide
theorem test_timer_overflow_stops_run :
    holds (exec .timerOverflow (ticking State.reset .us1 .freeRun 4095 9))
      (fun t => decide (t.timer.count = 4095) && t.timer.overflow && !t.timer.run && decide (t.ev.requests = 0x100)) = true := by
  decide
theorem test_byte_access_is_refused :
    holds (exec (.hostAccessError ⟨false, .byte, 0x74, 0⟩) State.reset) (fun t => decide (t.out = [.accessError])) = true := by
  decide
theorem test_write_to_read_only_is_ignored :
    holds (exec (.registerWrite 0x04 0xFFFFFFFF) State.reset)
      (fun t => decide (t.out = [.writeDone]) && decide (t.power = State.reset.power)) = true := by decide

/-! ### Witnesses

For each statement with hypotheses, a state and operands that meet them, one part for each clause. -/

/-- A power block in the given device state. -/
def power (d : DeviceState) : Power := { State.reset.power with device := d }

/-- `s` with every credit taken. -/
def full (s : State) : State := { s with sys := { s.sys with table := Vector.replicate 16 (some (record .read false)) } }

/-- A detector whose candidate level has held for `n` periods. -/
def filtering (n : Fin 2) : Detector := { Detector.initial false with pin := true, filter := .counting true n }

theorem witness_StepRunsFrontCommand :
    ({ State.reset with pending := [.claim, .srstNLow] } : State).pending = .claim :: [.srstNLow] := rfl

theorem witness_EmptyQueuePassesOneTbclkPeriod :
    (State.reset.pending = [] ∧ State.reset.epoch.divider + 1 < periodOfSelect State.reset.config.periodSelect ∧
      State.reset.timer.run = false ∧ State.reset.ev.eva.filter = .idle ∧ State.reset.ev.evb.filter = .idle) ∧
    (∃ s : State, s.pending = [] ∧ s.epoch.divider = 2046 ∧ s.epoch.divider + 1 < periodOfSelect s.config.periodSelect ∧
      s.timer.clock = .epoch ∧ s.ev.eva.filter = .counting true 0 ∧ s.ev.evb.filter = .counting true 1) ∧
    (∃ s : State, s.pending = [] ∧ s.epoch.divider = 2047 ∧ periodOfSelect s.config.periodSelect ≤ s.epoch.divider + 1 ∧
      s.timer.run = true ∧ s.timer.clock ≠ .epoch ∧ s.timer.prescaler = 14 ∧
      s.timer.prescaler + 1 < periodOfClock s.timer.clock ∧ s.ev.eva.filter = .counting true 1 ∧
      s.ev.evb.filter = .counting true 0) ∧
    (∃ s : State, s.pending = [] ∧ s.timer.run = true ∧ s.timer.clock ≠ .epoch ∧ s.timer.prescaler = 15 ∧
      periodOfClock s.timer.clock ≤ s.timer.prescaler + 1) := by
  refine ⟨by decide, ⟨{ ticking State.reset .epoch .modulo 0 9 with
      epoch := { State.reset.epoch with divider := 2046 }
      ev := { State.reset.ev with eva := filtering 0, evb := filtering 1 } }, by decide⟩,
    ⟨{ State.reset with
      timer := { State.reset.timer with clock := .us16, run := true, prescaler := 14 }
      epoch := { State.reset.epoch with divider := 2047 }
      ev := { State.reset.ev with eva := filtering 1, evb := filtering 0 } }, by decide⟩,
    ⟨{ State.reset with timer := { State.reset.timer with clock := .us16, run := true, prescaler := 15 } }, by decide⟩⟩

theorem witness_PortResetPins :
    State.reset.ports[(7 : AgentId)].resetLow = false ∧
    ({ State.reset with ports := State.reset.ports.set 7 { Port.initial with resetLow := true } } : State).ports[
      (7 : AgentId)].resetLow = true := by decide

theorem witness_HoldAndArming :
    State.reset.power.hold = false ∧
    ({ State.reset with power := { power .operational with hold := true } } : State).power.hold = true ∧
    ((issued State.reset 17 #v[0, 0, 0, 0]).CommandAtHead 17 #v[0, 0, 0, 0] ∧ State.reset.power.resetArmed = false) ∧
    (∃ s : State, s.CommandAtHead 17 #v[0, 0, 0, 0] ∧ s.power.resetArmed = true) :=
  ⟨by decide, by decide, by decide,
    { issued State.reset 17 #v[0, 0, 0, 0] with power := { power .operational with resetArmed := true } }, by decide⟩

theorem witness_StandbyAndPortReady :
    (∃ s : State, s.CommandAtHead 16 #v[0, 0, 0, 0] ∧ (∀ n : AgentId, s.ports[n].line = []) ∧ s.miss.parked = [] ∧
      s.dp.replay = [] ∧ (∀ g : GatewayTag, s.sys.table[g] = none) ∧ s.cmd.fifo.length = 1) ∧
    (∃ s : State, s.CommandAtHead 16 #v[0, 0, 0, 0] ∧ s.miss.parked ≠ []) :=
  ⟨⟨issued State.reset 16 #v[0, 0, 0, 0], by decide, by decide, by decide⟩,
    issued (parking State.reset 0) 16 #v[0, 0, 0, 0], by decide, by decide⟩

theorem witness_MalformedMarkFollowsForm :
    (Body.access (req .read 0x1000 64)).malformed = false ∧ (Body.access (req .write 0x103F 1)).malformed = false ∧
    (Body.access (req .fetch 0x103C 4)).malformed = false ∧ (Body.access (req .reserveRead 0x1038 8)).malformed = false ∧
    (Body.access (req .conditionalWrite 0x1004 4)).malformed = false ∧
    (Body.access (req .read 0x1001 64)).malformed = true ∧ (Body.access (req .reserveRead 0x1004 8)).malformed = true := by
  decide

theorem witness_AdmissionAdmitsOrWaits :
    Message.linkOk ⟨1, .signal 0⟩ = true ∧
    (∃ s : State, s.portState 2 = .opened ∧ s.ports[(2 : AgentId)].line.length = 3 ∧
      s.ports[(2 : AgentId)].line.length < 4) ∧
    (∃ s : State, s.portState 2 = .opened ∧ s.ports[(2 : AgentId)].line.length = 4) ∧
    (∃ s : State, s.portState 2 = .held) :=
  ⟨by decide, ⟨waiting State.reset (List.replicate 3 (item (.signal 1))), by decide⟩,
    ⟨waiting State.reset (List.replicate 4 (item (.signal 1))), by decide⟩,
    { State.reset with power := { power .operational with hold := true } }, by decide⟩

theorem witness_AdmissionStopsOnBrokenMessage :
    ({ req .write 0x100 4 with data := [1] } : Access).data.length ≠
      if (AccessKind.write = .write ∨ AccessKind.write = .conditionalWrite) ∧ 1 ≤ (4 : BitVec 7).toNat ∧
        (4 : BitVec 7).toNat ≤ 64 then (4 : BitVec 7).toNat else 0 := by decide

theorem witness_PortResetStepDiscardsAgentState :
    ∃ s : State, s.dp.epoch = none ∧ s.ports[(2 : AgentId)].resetPending = true ∧
      ∀ m : AgentId, m < 2 → s.ports[m].resetPending = false :=
  ⟨{ mapped with ports := mapped.ports.set 2 { Port.initial with resetPending := true } }, by decide⟩

theorem witness_NewAgentItemStepServesRotation :
    (∃ s : State, s.ServesItem 2 (item (.access (req .read 0x2010 4))) [item (.signal 3)]) ∧
    (State.reset.NewItemReady ∧ ∀ n, ¬ State.reset.HeadEligible n) :=
  ⟨⟨waiting mapped [item (.access (req .read 0x2010 4)), item (.signal 3)], by decide⟩, by decide⟩

theorem witness_SignalsAndConflictItemsEndInTheirStep :
    (∃ s : State, s.ServesItem 2 (item (.signal 3)) []) ∧
    (∃ s : State, s.ServesItem 2 { item (.signal 3) with conflict := true } []) :=
  ⟨⟨waiting mapped [item (.signal 3)], by decide⟩,
    waiting mapped [{ item (.signal 3) with conflict := true }], by decide⟩

theorem witness_ReplayStepDecidesHeadAfresh :
    ∃ s : State, s.ReplayReady ∧ s.dp.replay = (parked 0).item :: [(parked 0).item] :=
  ⟨{ mapped with dp := { mapped.dp with replay := [(parked 0).item, (parked 0).item] } }, by decide⟩

theorem witness_HigherStepsHoldBackLowerOnes :
    (∃ s : State, s.dp.epoch ≠ none ∧ ¬ s.NoUrgentStep) ∧
    (∃ s : State, s.dp.replay ≠ [] ∧ s.GateOpen ∧ s.cmd.fifo ≠ [] ∧ s.cmd.results.length < 4) ∧
    (∃ s : State, 4 ≤ s.cmd.results.length) ∧ ¬ (full State.reset).GateOpen :=
  ⟨⟨{ State.reset with dp := { State.reset.dp with epoch := some true } }, by decide⟩,
    ⟨{ issued State.reset 1 #v[0, 0, 0, 0] with dp := { State.reset.dp with replay := [(parked 0).item] } }, by decide⟩,
    ⟨{ State.reset with cmd := { State.reset.cmd with results := List.replicate 4 ⟨0, 1, .ok, 0, 0⟩ } }, by decide⟩,
    by decide⟩

theorem witness_FailedCheckFaultsTheRequest :
    State.reset.bindings[(2 : AgentId)] = none ∧ mapped.bindings[(2 : AgentId)] = some 1 ∧
    (∀ a, context.checks mapped.cache.entries .read 0x2010 = a → a = .pass 1 0x12010 (some 3)) ∧
    context.checks mapped.cache.entries .read 0x9000 = .miss ⟨5, 9⟩ ∧
    context.checks mapped.cache.entries .fetch 0x2010 = .fault .pageType (some 3) := by
  refine ⟨by decide, by decide, fun a h => h ▸ (by decide), by decide, by decide⟩

theorem witness_ChecksUpToTheLookup :
    ({ context with mode := .direct } : Context).mode = .direct ∧
    (context.mode = .translated ∧ (3 : Fin 4).val = (0xC0002010 : Word).toNat / 0x40000000 ∧ context.segs[(3 : Fin 4)] = 0) ∧
    (context.segs[(0 : Fin 4)] ≠ 0 ∧ (0 : Fin 4).val = (0x3FFFF000 : Word).toNat / 0x40000000 ∧
      (0x3FFFF : BitVec 18).toNat = (0x3FFFF000 : Word).toNat % 0x40000000 / 4096 ∧
      ∀ i : EntryId, mapped.cache.entries[i].state = .valid →
        mapped.cache.entries[i].key ≠ ⟨context.segs[(0 : Fin 4)], 0x3FFFF⟩) := by decide

theorem witness_EntryChecksInOrder :
    (context.mode = .translated ∧ (0 : Fin 4).val = (0x2FFF : Word).toNat / 0x40000000 ∧ context.segs[(0 : Fin 4)] ≠ 0 ∧
      (2 : BitVec 18).toNat = (0x2FFF : Word).toNat % 0x40000000 / 4096 ∧ mapped.cache.entries[(3 : EntryId)].state = .valid ∧
      mapped.cache.entries[(3 : EntryId)].key = ⟨context.segs[(0 : Fin 4)], 2⟩ ∧
      (∀ j : EntryId, mapped.cache.entries[j].state = .valid →
        mapped.cache.entries[j].key = ⟨context.segs[(0 : Fin 4)], 2⟩ → j = 3) ∧
      (0x12FFF : Word).toNat = page.frame.toNat * 4096 + (0x2FFF : Word).toNat % 4096) ∧
    (AccessKind.fetch ∉ page.pageType.kinds ∧ AccessKind.write ∈ page.pageType.kinds) ∧
    (page.writeLevel.toNat < ({ context with privilege := 3 } : Context).privilege.toNat ∧
      context.privilege.toNat ≤ page.writeLevel.toNat) ∧
    (page.pid ≠ 0 ∧ (∀ j : Fin 4, Context.initial.pids[j].pid ≠ page.pid)) ∧
    (∃ c : Context, c.pids[(1 : Fin 4)].pid = page.pid ∧ (∀ h : Fin 4, h < 1 → c.pids[h].pid ≠ page.pid) ∧
      c.pids[(1 : Fin 4)].writeDisable = true) ∧
    (context.pids[(0 : Fin 4)].pid = page.pid ∧ context.pids[(0 : Fin 4)].writeDisable = false ∧
      ({ page with pid := 0 } : Entry).pid = 0) ∧
    (∃ e : Entry, e.bank = 0 ∧ 0xF0000000 ≤ e.frame.toNat * 4096 ∧ context.privilege ≠ 0) := by
  refine ⟨by decide, by decide, by decide, by decide,
    ⟨{ context with pids := #v[⟨6, false⟩, ⟨7, true⟩, ⟨7, false⟩, ⟨0, false⟩] }, by decide⟩, by decide,
    { page with bank := 0, frame := 0xF0000 }, by decide⟩

/-- `s` with a full report queue and a full latch. -/
def reporting (s : State) : State :=
  { s with miss := { s.miss with queue := List.replicate 8 (report true), latch := some ⟨report true, false⟩ } }

/-- `s` with every context under the Fault policy. -/
def faulting (s : State) : State := { s with contexts := Vector.replicate 16 { context with policy := .fault } }

theorem witness_MissFollowsItsPolicy :
    (∃ s : State, s.contexts[(1 : ContextId)].policy = .park ∧ (s.miss.latch = none → s.miss.queue = []) ∧
      16 ≤ s.miss.parked.length) ∧
    (∃ s : State, s.contexts[(1 : ContextId)].policy = .park ∧ (s.miss.latch = none → s.miss.queue = []) ∧
      s.miss.parked.length = 15 ∧ s.miss.parked.length < 16 ∧ ∃ x ∈ s.miss.members, x.key = ⟨5, 9⟩) ∧
    (mapped.contexts[(1 : ContextId)].policy = .park ∧ (mapped.miss.latch = none → mapped.miss.queue = []) ∧
      mapped.miss.parked.length < 16 ∧ (∀ x ∈ mapped.miss.members, x.key ≠ ⟨5, 9⟩) ∧ mapped.miss.queue.length < 8) ∧
    ((reporting mapped).contexts[(1 : ContextId)].policy = .park ∧ (reporting mapped).miss.latch ≠ none ∧
      (reporting mapped).miss.parked.length < 16 ∧ (∀ x ∈ (reporting mapped).miss.members, x.key ≠ ⟨5, 9⟩) ∧
      8 ≤ (reporting mapped).miss.queue.length) ∧
    ((faulting mapped).contexts[(1 : ContextId)].policy = .fault ∧
      (faulting mapped).miss.queue.length < 8 ∧ ∀ x ∈ (faulting mapped).miss.members, x.key ≠ ⟨5, 9⟩) ∧
    ((faulting (parking mapped 0)).contexts[(1 : ContextId)].policy = .fault ∧
      ∃ x ∈ (faulting (parking mapped 0)).miss.members, x.key = ⟨5, 9⟩) := by
  refine ⟨⟨{ parking mapped 0 with miss := { mapped.miss with parked := List.replicate 16 (parked 0) } }, by decide⟩,
    ⟨{ parking mapped 0 with miss := { (parking mapped 0).miss with parked := List.replicate 15 (parked 0) } }, by decide⟩,
    by decide, by decide, by decide, by decide⟩

theorem witness_ReadTypeRequestIsIssued :
    mapped.LowestFree 0 ∧ ((req .read 0x2010 4).kind = .read ∨ (req .read 0x2010 4).kind = .fetch) ∧
    ((req .reserveRead 0x2010 4).kind = .reserveRead ∧
      (0x12000 : Word).toNat = (0x1201F : Word).toNat - (0x1201F : Word).toNat % 32) := by decide

/-- `s` with agent 0 reserving the line at 0x12000 of bank 1, and agent 2 as well. -/
def reserving (s : State) : State :=
  { s with resv := (s.resv.set 0 ⟨true, 1, 0x12000, 0⟩).set 2 ⟨true, 1, 0x12000, 3⟩ }

theorem witness_WriteIsIssuedAndClearsOthers :
    (reserving mapped).LowestFree 0 ∧ (req .write 0x201E 4).kind = .write ∧ 1 ≤ (req .write 0x201E 4).len.toNat ∧
    ((0 : AgentId) ≠ 2 ∧ (reserving mapped).resv[(0 : AgentId)].valid = true ∧
      (reserving mapped).resv[(0 : AgentId)].bank = 1 ∧
      ∃ i < 4, (reserving mapped).resv[(0 : AgentId)].line.toNat ≤ (0x1201E : Word).toNat + i ∧
        (0x1201E : Word).toNat + i < (reserving mapped).resv[(0 : AgentId)].line.toNat + 32) ∧
    ((1 : AgentId) ≠ 2 ∧ (reserving mapped).resv[(1 : AgentId)].valid = false) := by decide

theorem witness_ConditionalWriteTestsReservation :
    ((reserving mapped).LowestFree 0 ∧ (req .conditionalWrite 0x2010 4).kind = .conditionalWrite ∧
      1 ≤ (req .conditionalWrite 0x2010 4).len.toNat) ∧
    ((reserving mapped).resv[(2 : AgentId)].valid = true ∧ (reserving mapped).resv[(2 : AgentId)].bank = 1 ∧
      (reserving mapped).resv[(2 : AgentId)].line.toNat = (0x1201C : Word).toNat - (0x1201C : Word).toNat % 32) ∧
    (mapped.resv[(2 : AgentId)].valid = false ∧ mapped.LowestFree 0) := by decide

theorem witness_SendQueueIsFirstInFirstOut :
    State.reset.sys.sendq = [] ∧
    ∃ s : State, s.sys.sendq = ⟨0, .read, 1, 0x12010, 4, []⟩ :: [⟨1, .read, 1, 0x12014, 4, []⟩] :=
  ⟨rfl, { State.reset with sys := { State.reset.sys with
    sendq := [⟨0, .read, 1, 0x12010, 4, []⟩, ⟨1, .read, 1, 0x12014, 4, []⟩] } }, rfl⟩

theorem witness_CompletionFinishesTheRequest :
    (outstanding mapped .read false).Sent 0 (record .read false) ∧ (record .read false).orphaned = false ∧
    (outstanding mapped .write false).Sent 0 (record .write false) := by decide

theorem witness_OrphanedAndStrayResponsesEndUnseen :
    ((outstanding mapped .read true).Sent 0 (record .read true) ∧ (record .read true).orphaned = true) ∧
    State.reset.sys.table[(5 : GatewayTag)] = none ∧
    ∃ q ∈ [DownRequest.mk 0 .read 1 0x12010 4 []], q.gtag = 0 := by decide

/-- `s` with a full fault log. -/
def logged (s : State) : State :=
  { s with log := { s.log with records := List.replicate 16 ⟨0, .miss, 2, some 1, 1, .signal, 0, 0⟩, lost := 255 } }

theorem witness_FaultRecordIsKeptOrCounted :
    (∃ s : State, s.log.records.length = 15 ∧ s.log.records.length < 16) ∧ 16 ≤ (logged State.reset).log.records.length :=
  ⟨⟨{ State.reset with log := { State.reset.log with
    records := List.replicate 15 ⟨0, .miss, 2, some 1, 1, .signal, 0, 0⟩ } }, by decide⟩, by decide⟩

/-- The command of kind `k` with arguments `a` can be executed at `s`. -/
abbrev Ready (s : State) (k : Byte) (a : Vector Word 4) : Prop := (issued s k a).CommandAtHead k a

theorem witness_AgentCommandsBindUnbindAndClear :
    (Ready mapped 8 #v[8, 0, 0, 0] ∧ Ready mapped 8 #v[7, 16, 0, 0] ∧ Ready mapped 8 #v[7, 15, 0, 0]) ∧
    (mapped.bindings[(7 : AgentId)] = some 1 ∧ State.reset.bindings[(7 : AgentId)] = none) ∧
    (Ready mapped 9 #v[8, 0, 0, 0] ∧ Ready (parking mapped 0) 9 #v[2, 0, 0, 0]) ∧
    ((∃ t : AgentTag, (parking mapped 0).ports[(2 : AgentId)].tags.getLsbD t.val = true) ∧
      ∀ t : AgentTag, mapped.ports[(7 : AgentId)].tags.getLsbD t.val = false) ∧
    (Ready mapped 15 #v[8, 0, 0, 0] ∧ Ready mapped 15 #v[7, 0, 0, 0]) := by
  refine ⟨by decide, by decide, by decide, by decide, by decide⟩

theorem witness_ContextCommandsChangeOneField :
    (Ready mapped 12 #v[16, 0, 0, 0] ∧ Ready mapped 12 #v[15, 0, 0, 0] ∧ Ready mapped 13 #v[16, 0, 0, 0] ∧
      Ready mapped 13 #v[15, 0, 0, 0]) ∧
    (Ready mapped 10 #v[15, 11, 0, 0] ∧ Ready mapped 10 #v[15, 3, 0x10000, 0] ∧ fieldLimit 3 < (0x10000 : Word).toNat) ∧
    (Ready mapped 10 #v[15, 10, 1, 0] ∧ (1 : Word).toNat ≤ fieldLimit 10) ∧
    (Ready mapped 11 #v[15, 13, 0, 0] ∧ Ready mapped 11 #v[15, 12, 0, 0]) := by
  refine ⟨by decide, by decide, by decide, by decide⟩

/-- `s` with every entry Valid, unpinned or pinned, under keys of segment 9. -/
def crowded (s : State) (pinned : Bool) : State :=
  { s with cache := { entries := Vector.ofFn fun i => { page with key := ⟨9, BitVec.ofNat 18 i.val⟩, pinned := pinned }
                      pointer := 63 } }

theorem witness_InsertAddressChoosesEntry :
    (Ready mapped 1 #v[0, 2, 0, 0] ∧ ¬ KeyInRange 0 2) ∧
    (Ready mapped 1 #v[5, 2, 0xFFFFF, 0x1000F] ∧ KeyInRange 5 2 ∧ mapped.KeyAt (keyNamed 5 2) 3) ∧
    (Ready mapped 1 #v[0xFFFF, 0x3FFFF, 0xFFFFF, 0x1000F] ∧ KeyInRange 0xFFFF 0x3FFFF ∧
      mapped.KeyAbsent (keyNamed 0xFFFF 0x3FFFF) ∧ mapped.cache.entries[(0 : EntryId)].state = .empty) ∧
    (Ready (crowded mapped false) 1 #v[5, 2, 0, 0] ∧ (crowded mapped false).KeyAbsent (keyNamed 5 2) ∧
      (∀ j : EntryId, (crowded mapped false).cache.entries[j].state ≠ .empty) ∧
      (crowded mapped false).cache.entries[(63 : EntryId)].pinned = false ∧ (crowded mapped false).cache.pointer = 63) ∧
    (Ready (crowded mapped true) 1 #v[5, 2, 0, 0] ∧ (crowded mapped true).KeyAbsent (keyNamed 5 2) ∧
      ∀ i : EntryId, (crowded mapped true).cache.entries[i].pinned = true) := by
  refine ⟨by decide, by decide, by decide, by decide, by decide⟩

theorem witness_InsertRightsMakesValidAndReleases :
    (Ready mapped 2 #v[5, 2, 4, 0] ∧ ¬ (4 : Word).toNat % 65536 ≤ 3) ∧
    (Ready mapped 2 #v[5, 2, 0xFFFF0003, 0x30003] ∧ KeyInRange 5 2 ∧ (0xFFFF0003 : Word).toNat % 65536 ≤ 3 ∧
      (0x30003 : Word).toNat % 65536 ≤ 3 ∧ (0x30003 : Word).toNat / 65536 ≤ 3 ∧ mapped.KeyAt (keyNamed 5 2) 3 ∧
      PageType.fetchOnly.code = (0xFFFF0003 : Word).toNat % 65536) ∧
    (Ready mapped 2 #v[5, 3, 0, 0] ∧ mapped.KeyAbsent (keyNamed 5 3)) := by
  refine ⟨by decide, by decide, by decide⟩

theorem witness_PurgesEmptyTheirEntries :
    (Ready mapped 3 #v[5, 0x40000, 0, 0] ∧ ¬ KeyInRange 5 0x40000) ∧
    (Ready mapped 3 #v[5, 3, 0, 0] ∧ KeyInRange 5 3 ∧ mapped.KeyAbsent (keyNamed 5 3)) ∧
    (Ready mapped 3 #v[5, 2, 0, 0] ∧ KeyInRange 5 2 ∧ mapped.KeyAt (keyNamed 5 2) 3) ∧
    (Ready mapped 4 #v[0x10000, 0, 0, 0] ∧ Ready mapped 4 #v[0, 0, 0, 0] ∧ Ready mapped 5 #v[2, 0, 0, 0]) ∧
    (Ready mapped 4 #v[0xFFFF, 0, 0, 0] ∧ Ready mapped 4 #v[1, 0, 0, 0] ∧ Ready mapped 5 #v[1, 0, 0, 0] ∧
      Ready mapped 5 #v[0, 0, 0, 0]) := by
  refine ⟨by decide, by decide, by decide, by decide, by decide⟩

theorem witness_ReadEntryShowsLayout :
    Ready mapped 6 #v[64, 0, 0, 0] ∧ Ready mapped 6 #v[63, 2, 0, 0] ∧ Ready mapped 6 #v[63, 0, 0, 0] ∧
    Ready mapped 6 #v[63, 1, 0, 0] := by decide

theorem witness_ProbeReportsChecks :
    (Ready mapped 7 #v[16, 0, 0, 0] ∧ Ready mapped 7 #v[15, 0, 5, 0]) ∧
    (Ready mapped 7 #v[15, 0x2010, 0, 0] ∧ context.checks mapped.cache.entries .read 0x2010 = .pass 1 0x12010 (some 3)) ∧
    (Ready mapped 7 #v[15, 0x9000, 4, 0] ∧ context.checks mapped.cache.entries .conditionalWrite 0x9000 = .miss ⟨5, 9⟩) ∧
    context.checks mapped.cache.entries .read 0x40000000 = .fault .slotEmpty none ∧
    context.checks mapped.cache.entries .fetch 0x2010 = .fault .pageType (some 3) := by
  refine ⟨by decide, by decide, by decide, by decide, by decide⟩

theorem witness_AbortParkedFinishesKey :
    (Ready (parking mapped 0) 14 #v[0, 9, 0, 0] ∧ ¬ KeyInRange 0 9) ∧
    (Ready (parking mapped 0) 14 #v[5, 8, 0, 0] ∧ KeyInRange 5 8 ∧
      ∀ p ∈ (parking mapped 0).miss.parked, p.item.key ≠ keyNamed 5 8) ∧
    (Ready (parking mapped 0) 14 #v[5, 9, 0, 0] ∧ KeyInRange 5 9 ∧
      ∃ p ∈ (parking mapped 0).miss.parked, p.item.key = keyNamed 5 9) := by
  refine ⟨by decide, by decide, by decide⟩

theorem witness_BadCommandIsAnswered :
    Ready mapped 0 #v[0, 0, 0, 0] ∧ Ready mapped 18 #v[0, 0, 0, 0] ∧ Ready mapped 255 #v[0, 0, 0, 0] ∧
    Ready mapped 17 #v[0, 0, 0, 0] ∧ (17 : Byte).toNat ≠ (0 : Fin 17).val + 1 := by decide

theorem witness_CommandAndPopWrites :
    (∃ s : State, s.cmd.fifo.length = 3 ∧ s.cmd.results = ⟨0, 1, .ok, 0, 0⟩ :: []) ∧ (∃ s : State, 4 ≤ s.cmd.fifo.length) ∧
    (State.reset.cmd.results = [] ∧ State.reset.log.records = []) ∧ (∃ r rest, (logged State.reset).log.records = r :: rest) :=
  ⟨⟨{ State.reset with cmd := { State.reset.cmd with
      fifo := List.replicate 3 ⟨1, #v[0, 0, 0, 0]⟩, results := [⟨0, 1, .ok, 0, 0⟩] } }, by decide⟩,
    ⟨{ State.reset with cmd := { State.reset.cmd with fifo := List.replicate 4 ⟨1, #v[0, 0, 0, 0]⟩ } }, by decide⟩,
    by decide, _, _, rfl⟩

theorem witness_MissPopPresentsNextReport :
    State.reset.miss.latch = none ∧ (reporting State.reset).miss.latch = some ⟨report true, false⟩ ∧
    (reporting State.reset).miss.queue = report true :: List.replicate 7 (report true) ∧
    ∃ s : State, s.miss.latch = some ⟨report false, false⟩ ∧ s.miss.queue = [] :=
  ⟨by decide, by decide, by decide, { State.reset with miss := { State.reset.miss with
    latch := some ⟨report false, false⟩ } }, by decide⟩

theorem witness_BacklogIsServedOldestFirst :
    (((reporting mapped).miss.latch = none → (reporting mapped).miss.queue = []) ∧
      8 ≤ (reporting mapped).miss.queue.length) ∧
    (((parking mapped 0).miss.latch = none → (parking mapped 0).miss.queue = []) ∧
      (parking mapped 0).miss.queue.length < 8 ∧ (parking mapped 0).miss.parked = [] ++ parked 0 :: [] ∧
      (parking mapped 0).miss.UnreportedAt (parked 0)) ∧
    ((issued (parking mapped 0) 6 #v[0, 0, 0, 0]).CommandAtHead 6 #v[0, 0, 0, 0] ∧
      ∃ u, (issued (parking mapped 0) 6 #v[0, 0, 0, 0]).beforeService = some u ∧ u.miss.queue.length < 8 ∧
        ∃ p ∈ u.miss.parked, u.miss.UnreportedAt p) ∧
    (∃ u, (issued mapped 6 #v[0, 0, 0, 0]).beforeService = some u ∧ ∀ p ∈ u.miss.parked, ¬ u.miss.UnreportedAt p) ∧
    (∃ s : State, s.dp.epoch = some false ∧ s.power.resetArmed = true ∧ ∀ g : GatewayTag, s.sys.table[g] = none) ∧
    (∃ s : State, s.dp.epoch = some true) ∧
    (∃ s : State, s.dp.epoch = none ∧ ∃ n : AgentId, s.ports[n].resetPending = true) ∧
    (∃ s : State, s.ReplayReady ∧ s.dp.replay ≠ []) ∧
    ((waiting mapped [item (.signal 3)]).NewItemReady ∧ ∃ n, (waiting mapped [item (.signal 3)]).HeadEligible n) ∧
    (State.reset.beforeService = none ∧ State.reset.NoUrgentStep ∧ ∀ n, ¬ State.reset.HeadEligible n) := by
  refine ⟨by decide, by decide, ⟨by decide, _, rfl, by decide, by decide⟩, ⟨_, rfl, by decide⟩,
    ⟨{ State.reset with dp := { State.reset.dp with epoch := some false }
                        power := { power .operational with resetArmed := true } }, by decide⟩,
    ⟨{ State.reset with dp := { State.reset.dp with epoch := some true } }, by decide⟩,
    ⟨{ State.reset with ports := State.reset.ports.set 7 { Port.initial with resetPending := true } }, by decide⟩,
    ⟨{ State.reset with dp := { State.reset.dp with replay := [(parked 0).item] } }, by decide⟩, by decide, by decide⟩

/-- `s` with DeliverEnable set, ranks 3 and 4 flagged and permitted, and `n` frames on the stack. -/
def delivering (s : State) (n : Nat) : State :=
  { s with ev := { s.ev with requests := 0x0C, permits := 0x0C, deliver := true, stack := List.replicate n ⟨none, 0⟩ } }

theorem witness_ClaimAndCompleteWorkTheStack :
    (State.reset.ev.deliver = false ∧ State.reset.ev.stack = []) ∧
    ((delivering State.reset 2).ev.deliver = true ∧ (delivering State.reset 2).ev.Eligible .missReport ∧
      (delivering State.reset 2).ev.stack.length < 3) ∧
    (∀ y, (delivering State.reset 2).ev.Eligible y → Source.missReport.rank ≤ y.rank) ∧
    (3 ≤ (delivering State.reset 3).ev.stack.length ∧ (delivering State.reset 3).ev.Eligible .missReport) ∧
    (delivering State.reset 2).ev.stack = ⟨none, 0⟩ :: [⟨none, 0⟩] := by
  refine ⟨by decide, ⟨by decide, (eligible_source_iff _ _).1 (by decide), by decide⟩, fun y h => ?_,
    ⟨by decide, (eligible_source_iff _ _).1 (by decide)⟩, by decide⟩
  have h' := (eligible_source_iff _ _).2 h
  revert h'
  cases y <;> decide

theorem witness_StickyFlagsAndMailboxReads :
    ∃ s : State, s.ev.mail[(7 : AgentId)].count = 15 ∧ s.ev.mail[(7 : AgentId)].count ≤ 15 :=
  ⟨{ State.reset with ev := { State.reset.ev with mail := State.reset.ev.mail.set 7 ⟨1, 15, true⟩ } }, by decide⟩

theorem witness_DetectorsRaiseOnEffectiveLevel :
    (filtering 1).filter = .counting true 1 ∧ (filtering 0).filter = .counting true 0 ∧
    Polarity.falling = (if (2 : Word).getLsbD 1 then .falling else .rising) ∧
    Polarity.rising = (if (2 : Word).getLsbD 0 then .falling else .rising) := by decide

theorem witness_SoftResetFinishesAndClears :
    ∃ s : State, s.dp.epoch = some false ∧ s.power.resetArmed = true ∧ ∀ g : GatewayTag, s.sys.table[g] = none :=
  ⟨{ parking mapped 0 with dp := { mapped.dp with epoch := some false }
                           power := { power .standby with resetArmed := true } }, by decide⟩

theorem witness_EpochStepAgesAndTicks :
    ∃ s : State, s.dp.epoch = some true ∧
      ¬ (s.power.resetArmed = true ∧ true = false ∧ ∀ g : GatewayTag, s.sys.table[g] = none) ∧
      (∃ p ∈ s.miss.parked, s.config.missTimeout.toNat ≤ p.age + 1) ∧
      (s.resv[(0 : AgentId)].valid = true ∧ s.config.lifetime.toNat ≤ s.resv[(0 : AgentId)].age + 1 ∧ s.config.lifetime ≠ 0) ∧
      s.timer.run = true ∧ s.timer.clock = .epoch ∧ s.timer.count.toNat + 1 = s.timer.compare.toNat :=
  ⟨{ reserving (ticking (parking mapped 7) .epoch .freeRun 8 9) with
      dp := { mapped.dp with epoch := some true }, config := { mapped.config with lifetime := 1 } }, by decide⟩

theorem witness_TimerTickByModeAndCount :
    ((ticking State.reset .us1 .modulo 8 9).timer.count.toNat + 1 = (ticking State.reset .us1 .modulo 8 9).timer.compare.toNat ∧
      (ticking State.reset .us1 .modulo 8 9).timer.mode = .modulo) ∧
    (ticking State.reset .us1 .modulo 4095 4095).timer.count.toNat = 4095 ∧
    ((ticking State.reset .us1 .freeRun 4094 4095).timer.mode = .freeRun ∧
      (ticking State.reset .us1 .freeRun 4094 4095).timer.count.toNat + 1 =
        (ticking State.reset .us1 .freeRun 4094 4095).timer.compare.toNat) ∧
    ((ticking State.reset .us1 .freeRun 4095 1).timer.count.toNat = 4095 ∧
      (ticking State.reset .us1 .freeRun 4095 1).timer.run = true ∧
      (ticking State.reset .us1 .freeRun 4095 1).timer.clock ≠ .epoch) ∧
    ((ticking State.reset .us1 .freeRun 9 9).timer.count.toNat + 1 ≠ (ticking State.reset .us1 .freeRun 9 9).timer.compare.toNat ∧
      (ticking State.reset .us1 .freeRun 9 9).timer.count.toNat ≠ 4095) := by decide

theorem witness_TimerRegisterWrites :
    TimerClock.epoch.code = (0x133 : Word).toNat % 4 ∧ (0x133 : Word).getLsbD 8 = true ∧ TimerClock.us1.code = (0 : Word).toNat % 4 := by
  decide

theorem witness_HostAccessesFollowTheMap :
    (AccessSize.byte ≠ .word ∧ (0x75 : BitVec 8).toNat % 4 ≠ 0) ∧
    ((0x04 : BitVec 8).toNat % 4 = 0 ∧
      (0x04 : BitVec 8) ∉ [0x0C#8, 0x74#8, 0x88#8, 0x8C#8, 0x90#8, 0x94#8, 0x98#8, 0x9C#8, 0xA0#8, 0xA4#8]) ∧
    ((0xFC : BitVec 8).toNat % 4 = 0 ∧
      (0xFC : BitVec 8) ∉ [0x08#8, 0x10#8, 0x14#8, 0x18#8, 0x1C#8, 0x20#8, 0x24#8, 0x34#8, 0x40#8, 0x58#8, 0x60#8, 0x64#8,
        0x6C#8, 0x70#8, 0x78#8, 0x7C#8, 0x80#8, 0xA8#8, 0xAC#8, 0xB4#8]) := by decide

theorem witness_ReadRegistersShowState :
    (outstanding mapped .read true).Bounded ∧ (0x20#8 ∈ [0x20#8, 0x34#8, 0x40#8] ∧ 0xDC ≤ (0xDC#8).toNat) ∧
    (logged State.reset).log.records ≠ [] ∧ (reporting State.reset).miss.latch = some ⟨report true, false⟩ ∧
    (∃ s : State, s.cmd.results = ⟨0, 1, .ok, 0, 0⟩ :: []) := by
  refine ⟨by decide, by decide, by decide, by decide,
    { State.reset with cmd := { State.reset.cmd with results := [⟨0, 1, .ok, 0, 0⟩] } }, rfl⟩

/-- One read waits at port 2 of `mapped`. -/
def reading : State := { waiting mapped [item (.access (req .read 0x9000 4))] with pending := [.newAgentItemStep] }

/-- Agent 2's one record is orphaned at gateway tag 0, and its port is about to be reset again. -/
def flushing : State :=
  { outstanding mapped .read true with
    ports := mapped.ports.set 2 { Port.initial with flush := 1, resetLow := true, resetPending := true }
    pending := [.portResetStep] }

theorem witness_CountsAndQueuesStayBounded :
    (reading.Bounded ∧ reading.PageSetSound ∧ reading.DownstreamSound ∧ reading.TagsSound) ∧
    (flushing.Bounded ∧ flushing.PageSetSound ∧ flushing.DownstreamSound ∧ flushing.TagsSound) ∧
    holds (step flushing) (fun t => decide (t.ports[2].flush = 1)) = true := by
  refine ⟨⟨by decide, by decide, by decide, by decide⟩, ⟨by decide, by decide, by decide, by decide⟩, by decide⟩

theorem witness_invariants_hold_before_a_step :
    (reading.Bounded ∧ reading.CacheSound) ∧ (reading.ReservationsSound ∧ reading.NoneParkedUnderValid) ∧
    reading.PageSetSound ∧ reading.ReportsSound ∧ reading.DownstreamSound ∧ reading.TagsSound ∧
    holds (step reading) (fun t => decide (t.miss.parked = [parked 0])) = true := by
  refine ⟨⟨by decide, by decide⟩, ⟨by decide, by decide⟩, by decide, by decide, by decide, by decide, by decide⟩

theorem witness_OnlyCommandsChangeTranslation :
    (∃ t, exec .claim State.reset = .next t ∧ Instr.claim ∉ hostCommandSteps) ∧
    (Instr.backlogService ∉ hostCommandSteps ∧ ∀ k a, ¬ (waiting mapped [item (.signal 3)]).CommandAtHead k a) :=
  ⟨⟨_, rfl, by decide⟩, by decide, fun _ _ h => by have := h.2; simp [waiting, mapped, State.reset] at this⟩

/-- A soft reset is due in Standby or Waking, with PORT_READY low or high. -/
def due (d : DeviceState) (ready : Bool) : State :=
  { State.reset with dp := { State.reset.dp with epoch := some false }
                     power := { power d with resetArmed := true, portReady := ready } }

theorem witness_ResetMarksClearOnlyByResets :
    holds (exec .epochStep (due .standby false)) (fun t => decide ((due .standby false).SoftResets .epochStep t)) = true := by
  decide

theorem witness_DeviceStateChangesAsListed :
    holds (exec .epochStep (due .standby false)) (fun t => decide (t.power.device = .waking)) = true ∧
    holds (exec .epochStep (due .waking true)) (fun t => decide (t.power.device = .operational)) = true ∧
    holds (exec .enterStandby (issued State.reset 16 #v[0, 0, 0, 0])) (fun t => decide (t.power.device = .standby)) = true := by
  decide

end Sys2Proof.Tests
end

section
/-! The agent tags of a port, the state of a port, and what the statements on agent ports and the agent link say of
admission, of the AGRST_N pins and of the port reset step. -/

namespace Sys2Proof.Machine

/-! ### Tag sets -/

theorem tagBit_getLsbD (t x : AgentTag) : (tagBit t).getLsbD x.val = decide (x = t) := by
  revert t x; decide

/-- A tag joins a set: it is in use, and the others are as before (R5). -/
@[simp] theorem Port.uses_occupy (p : Port) (t x : AgentTag) : (p.occupy t).uses x = (p.uses x || decide (x = t)) := by
  simp only [Port.uses, Port.occupy, BitVec.getLsbD_or, tagBit_getLsbD]

/-- A tag leaves a set: it is free, and the others are as before (R5). -/
@[simp] theorem Port.uses_release (p : Port) (t x : AgentTag) :
    (p.release t).uses x = (p.uses x && !decide (x = t)) := by
  simp [-BitVec.getLsbD_eq_getElem, Port.uses, Port.release, tagBit_getLsbD]

/-- A tag that is in use joins the set without effect. -/
theorem Port.occupy_of_uses {p : Port} {t : AgentTag} (h : p.uses t = true) : p.occupy t = p := by
  have htags : p.tags ||| tagBit t = p.tags := by
    refine BitVec.eq_of_getLsbD_eq fun i hi => ?_
    have hbit := Port.uses_occupy p t ⟨i, hi⟩
    simp only [Port.uses, Port.occupy] at hbit h
    rw [hbit]
    by_cases hx : (⟨i, hi⟩ : AgentTag) = t
    · subst hx; simp [h]
    · simp [hx]
  simp [Port.occupy, htags]

@[simp] theorem Port.occupy_flush (p : Port) (t : AgentTag) : (p.occupy t).flush = p.flush := rfl

/-! ### The state of a port -/

/-- The state of a port is fixed by the port and Hold (R13). -/
theorem portState_congr {s t : State} {n : AgentId} (hp : t.ports[n] = s.ports[n])
    (hh : t.power.hold = s.power.hold) : t.portState n = s.portState n := by
  unfold State.portState; rw [hp, hh]

/-- A change of one port leaves the state of every other port (R13). -/
theorem portState_setPort_of_ne (s : State) {n m : AgentId} (f : Port → Port) (h : m ≠ n) :
    (s.setPort n f).portState m = s.portState m :=
  portState_congr (by rw [State.setPort_ports, set_getElem_fin, if_neg h]) rfl

/-- A port admits exactly where it is Open and its line has room (R6). -/
theorem admits_iff (s : State) (n : AgentId) :
    s.admits n = true ↔ s.portState n = .opened ∧ s.ports[n].line.length < 4 := by
  simp [State.admits]

/-- An Open port flushes nothing (R13). -/
theorem flush_of_opened {s : State} {n : AgentId} (h : s.portState n = .opened) : s.ports[n].flush = 0 := by
  unfold State.portState at h
  split at h
  · cases h
  · split at h
    · cases h
    · omega

/-! ### The form of a request -/

/-- A request that is a multiple of its length, of 4 or 8 bytes, lies in one block of a multiple of 8 bytes (R3). -/
theorem div_eq_of_aligned {a n i m : Nat} (hn : n = 4 ∨ n = 8) (ha : a % n = 0) (hi : i < n) (hm : m % 8 = 0) :
    (a + i) / m = a / m := by
  have h8 : (a + i) / 8 = a / 8 := by rcases hn with rfl | rfl <;> omega
  obtain ⟨k, rfl⟩ : 8 ∣ m := Nat.dvd_of_mod_eq_zero hm
  rw [← Nat.div_div_eq_div_mul, ← Nat.div_div_eq_div_mul, h8]

/-- Bytes of one 64-byte block lie in one page. -/
theorem page_eq_of_block_eq {a b : Nat} (h : a / 64 = b / 64) : a / 4096 = b / 4096 := by omega

/-- Settles O8: each kind's row of the table of R3, and for the aligned kinds the block follows from the alignment. -/
theorem malformedMarkFollowsForm : Obligations.MalformedMarkFollowsForm := by
  refine ⟨fun _ => rfl, fun a => ?_⟩
  obtain ⟨kind, addr, len, data⟩ := a
  have hlink : (Body.access ⟨kind, addr, len, data⟩).malformed = false ↔
      (⟨kind, addr, len, data⟩ : Access).formOk = true := by simp [Body.malformed]
  rw [hlink]
  have plain : (decide (1 ≤ len.toNat ∧ len.toNat ≤ 64) && oneBlock addr.toNat len.toNat) = true ↔
      1 ≤ len.toNat ∧ len.toNat ≤ 64 ∧ ∀ i < len.toNat, (addr.toNat + i) / 64 = addr.toNat / 64 := by
    rw [Bool.and_eq_true, decide_eq_true_eq, and_assoc]
    exact and_congr_right fun h => and_congr_right fun _ => oneBlock_iff _ _ h
  have fetch : (decide (4 ≤ len.toNat ∧ len.toNat ≤ 64 ∧ len.toNat % 4 = 0 ∧ addr.toNat % 4 = 0) &&
        oneBlock addr.toNat len.toNat) = true ↔
      (∃ k, 1 ≤ k ∧ k ≤ 16 ∧ len.toNat = 4 * k) ∧ addr.toNat % 4 = 0 ∧
        ∀ i < len.toNat, (addr.toNat + i) / 64 = addr.toNat / 64 := by
    rw [Bool.and_eq_true, decide_eq_true_eq]
    constructor
    · rintro ⟨⟨h4, h64, hm, ha⟩, hb⟩
      exact ⟨⟨len.toNat / 4, by omega, by omega, by omega⟩, ha, (oneBlock_iff _ _ (by omega)).1 hb⟩
    · rintro ⟨⟨k, h1, h16, hk⟩, ha, hb⟩
      exact ⟨⟨by omega, by omega, by omega, ha⟩, (oneBlock_iff _ _ (by omega)).2 hb⟩
  have aligned : decide ((len.toNat = 4 ∨ len.toNat = 8) ∧ addr.toNat % len.toNat = 0) = true ↔
      (len.toNat = 4 ∨ len.toNat = 8) ∧ addr.toNat % len.toNat = 0 := decide_eq_true_iff
  have inBlock {p q : Prop} (h : p ∧ q ∧ ∀ i < len.toNat, (addr.toNat + i) / 64 = addr.toNat / 64) :
      ∀ i < len.toNat, (addr.toNat + i) / 64 = addr.toNat / 64 ∧ (addr.toNat + i) / 4096 = addr.toNat / 4096 :=
    fun i hi => ⟨h.2.2 i hi, page_eq_of_block_eq (h.2.2 i hi)⟩
  have inLine (h : (len.toNat = 4 ∨ len.toNat = 8) ∧ addr.toNat % len.toNat = 0) :
      ∀ i < len.toNat, (addr.toNat + i) / 64 = addr.toNat / 64 ∧ (addr.toNat + i) / 4096 = addr.toNat / 4096 :=
    fun i hi => ⟨div_eq_of_aligned h.1 h.2 hi rfl, div_eq_of_aligned h.1 h.2 hi rfl⟩
  cases kind with
  | read => exact ⟨plain, fun h => inBlock (plain.1 h)⟩
  | write => exact ⟨plain, fun h => inBlock (plain.1 h)⟩
  | fetch => exact ⟨fetch, fun h => inBlock (fetch.1 h)⟩
  | reserveRead => exact ⟨aligned, fun h => inLine (aligned.1 h)⟩
  | conditionalWrite => exact ⟨aligned, fun h => inLine (aligned.1 h)⟩

/-! ### Admission -/

/-- A message of a request is one the link can carry where it has the bytes of R2's rule. -/
theorem linkOk_access_iff (t : AgentTag) (a : Access) :
    (Message.mk t (.access a)).linkOk = true ↔ a.data.length =
      if (a.kind = .write ∨ a.kind = .conditionalWrite) ∧ 1 ≤ a.len.toNat ∧ a.len.toNat ≤ 64 then a.len.toNat else 0 := by
  have hw : a.kind.isWriteType = true ↔ a.kind = .write ∨ a.kind = .conditionalWrite := by
    cases a.kind <;> simp [AccessKind.isWriteType]
  simp only [Message.linkOk, Access.linkOk, Access.dataBytes, beq_iff_eq, Bool.and_eq_true, decide_eq_true_eq, hw,
    and_assoc]

/-- Settles O10: the link's rule is the model's test of a message. -/
theorem admissionStopsOnBrokenMessage : Obligations.AdmissionStopsOnBrokenMessage := by
  intro n a t s h
  exact if_neg fun hok => h ((linkOk_access_iff t a).1 hok)

/-- Admission, whole: the item joins the line, the tag the set, both counts advance and the device wakes (R6, R8, R164). -/
theorem takeIn_of_admits {s : State} {n : AgentId} (m : Message) (h : s.admits n = true) :
    s.takeIn n m = { s with
      ports := s.ports.set n { s.ports[n].occupy m.tag with line := s.ports[n].line ++ [s.itemOf n m] }
      admSeq := s.admSeq + 1
      admOrder := s.admOrder + 1
      power := s.power.woken } := by
  rw [State.takeIn, if_pos h, State.wake_eq]; rfl

theorem takeIn_of_not_admits {s : State} {n : AgentId} (m : Message) (h : ¬ s.admits n = true) : s.takeIn n m = s :=
  if_neg h

/-- Settles O9, by whether the port admits and whether the tag is in use. -/
theorem admissionAdmitsOrWaits : Obligations.AdmissionAdmitsOrWaits := by
  intro n m s hm
  have hexec : exec (.admission n m) s = .next (s.takeIn n m) := if_pos hm
  simp only [hexec, ← admits_iff]
  refine ⟨fun h => ?_, fun h => by rw [takeIn_of_not_admits m h]⟩
  rw [takeIn_of_admits m h]
  by_cases hu : s.ports[n].tags.getLsbD m.tag.val = true
  · have hocc : s.ports[n].occupy m.tag = s.ports[n] := Port.occupy_of_uses hu
    simp only [hocc, State.itemOf, Port.uses, hu, Bool.not_true, Bool.false_and, if_true]
  · have hu' : s.ports[n].tags.getLsbD m.tag.val = false := by simpa using hu
    simp only [Port.occupy, tagBit, State.itemOf, Port.uses, hu', Bool.not_false, Bool.true_and, Bool.false_eq_true,
      if_false]

/-! ### The pins of a port -/

/-- Settles O5, by the level of the pin. -/
theorem portResetPins : Obligations.PortResetPins := by
  intro n s
  refine ⟨fun h => ⟨s.setPort n fun p => { p with resetLow := true, resetPending := true }, ?_, rfl, ?_,
    fun m hm => portState_setPort_of_ne s _ hm⟩, fun h => ?_, s.releasePortReset n, rfl, rfl, ?_,
    fun m hm => portState_setPort_of_ne s _ hm⟩
  · show Host.Outcome.next (s.assertPortReset n) = _
    rw [State.assertPortReset, if_neg (ne_true_of_eq_false h)]
  · simp [State.portState]
  · show Host.Outcome.next (s.assertPortReset n) = _
    rw [State.assertPortReset, if_pos h]
  · simp [State.portState, State.releasePortReset]; rfl

/-! ### The port reset step -/

/-- A record of agent `n` is orphaned, another is left (R16). -/
theorem orphan_getElem (y : SysPort) (n : AgentId) (g : GatewayTag) :
    (y.orphan n).table[g] = y.table[g].map fun r => if r.agent = n then { r with orphaned := true } else r :=
  mapIdx_fin ..

@[simp] theorem orphan_sendq (y : SysPort) (n : AgentId) : (y.orphan n).sendq = y.sendq := by simp only [SysPort.orphan]

@[simp] theorem orphan_stray (y : SysPort) (n : AgentId) : (y.orphan n).stray = y.stray := by simp only [SysPort.orphan]

/-- The port that was reset, whole (R16). -/
theorem portResetStep_port (s : State) (n : AgentId) :
    (s.portResetStep n).ports[n] =
      { s.ports[n] with line := [], tags := 0, flush := s.sys.countOf n, resetPending := false } := by
  simp [State.portResetStep]

/-- Every other port is left (R16). -/
theorem portResetStep_port_of_ne (s : State) {n m : AgentId} (h : m ≠ n) :
    (s.portResetStep n).ports[m] = s.ports[m] := by
  simp only [State.portResetStep, State.clearReservation_ports, State.setPort_ports, set_getElem_fin, if_neg h]

/-- After the step for `n` every record of agent `n` is orphaned, so its orphans are its records (R16, R17). -/
theorem countOf_eq_orphaned (y : SysPort) (n : AgentId) :
    y.countOf n =
      ((List.finRange 16).filter fun g => (y.orphan n).table[g].any fun r => r.agent == n && r.orphaned).length := by
  rw [SysPort.countOf, countIdx, ← List.countP_eq_length_filter]
  refine List.countP_congr fun g _ => ?_
  rw [orphan_getElem]
  cases y.table[g] with
  | none => simp
  | some r => by_cases hr : r.agent = n <;> simp [hr]

/-- What the step leaves at the system port, and in the replay queue (R16). -/
theorem portResetStep_sys (s : State) (n : AgentId) : (s.portResetStep n).sys = s.sys.orphan n := rfl

theorem portResetStep_replay (s : State) (n : AgentId) :
    (s.portResetStep n).dp.replay = s.dp.replay.filter fun r => decide (r.agent ≠ n) := rfl

/-- Settles O11: the step's own state is the one claimed. -/
theorem portResetStepDiscardsAgentState : Obligations.PortResetStepDiscardsAgentState := by
  intro n s he hp hlow
  refine ⟨s.portResetStep n, ?_, rfl, ?_, fun m hm => portResetStep_port_of_ne s hm, ?_, ?_, fun g => ?_, ?_, ?_, rfl, ?_⟩
  · show execPortResetStep s = _
    rw [execPortResetStep, nextStep_portReset he hp hlow]
  · rw [portResetStep_port, portResetStep_sys, countOf_eq_orphaned]
  · exact MissBlock.remove_removedFrom s.miss _
  · simp [State.portResetStep]; rfl
  · rw [portResetStep_sys]; exact orphan_getElem s.sys n g
  · rw [portResetStep_sys, orphan_sendq]
  · rw [portResetStep_sys, orphan_stray]
  · rw [State.portState, portResetStep_port]
    simp only [Bool.or_false]; rfl

end Sys2Proof.Machine
end

section
/-! The counts of the blocks that hold no request (fault log, command block, event delivery, reservations, epoch generator,
interval timer), and the operations that keep them in range. -/

namespace Sys2Proof.Machine

/-! ### One block at a time -/

/-- The fault log holds at most 16 records and its lost count is in range (R117). -/
def FaultLog.InRange (l : FaultLog) : Prop := l.records.length ≤ 16 ∧ l.lost ≤ 255

/-- Both FIFOs hold at most 4 entries (R126). -/
def CmdBlock.InRange (c : CmdBlock) : Prop := c.fifo.length ≤ 4 ∧ c.results.length ≤ 4

/-- The service stack holds at most 3 frames and every mailbox count is at most 15 (R133, R145). -/
def EventBlock.InRange (e : EventBlock) : Prop := e.stack.length ≤ 3 ∧ ∀ n : AgentId, e.mail[n].count ≤ 15

/-- The compare is not 0 and the prescaler stands within its clock's period (R153, R155). -/
def Timer.InRange (t : Timer) : Prop := 1 ≤ t.compare.toNat ∧ (t.prescaler = 0 ∨ t.prescaler < t.clock.period)

/-- Every count of the blocks that hold no request is in its range. -/
structure State.LocalRange (s : State) : Prop where
  log : s.log.InRange
  cmd : s.cmd.InRange
  ev : s.ev.InRange
  resv : ∀ n : AgentId, s.resv[n].age ≤ 15
  epoch : s.epoch.divider < epochPeriod s.config.periodSelect
  timer : s.timer.InRange

theorem satInc_le {max n : Nat} (h : n ≤ max) : satInc max n ≤ max := by
  unfold satInc; split <;> omega

/-! ### Event delivery -/

theorem EventBlock.InRange.raise {e : EventBlock} (h : e.InRange) (x : Source) : (e.raise x).InRange := h

theorem EventBlock.InRange.raiseIf {e : EventBlock} (h : e.InRange) (b : Bool) (x : Source) :
    (if b then e.raise x else e).InRange := by
  split
  · exact h.raise x
  · exact h

theorem EventBlock.InRange.push {e : EventBlock} (h : e.InRange) (f : Frame) : (e.push f).InRange := by
  unfold EventBlock.push
  split
  · rename_i hroom
    exact ⟨by simpa using hroom, h.2⟩
  · refine ⟨?_, h.2⟩
    show (f :: e.stack.take 2).length ≤ 3
    simp

theorem EventBlock.InRange.claim {e : EventBlock} (h : e.InRange) : e.claim.1.InRange := by
  unfold EventBlock.claim
  split
  · split
    · exact EventBlock.InRange.push (e := { e with requests := _, deliver := false }) h _
    · exact h
  · exact h

theorem EventBlock.InRange.complete {e : EventBlock} (h : e.InRange) (b : Bool) : (e.complete b).InRange := by
  have hpop : e.popFrame.InRange := by
    unfold EventBlock.popFrame
    split
    · rename_i f rest hst
      refine ⟨?_, h.2⟩
      have := h.1
      rw [hst, List.length_cons] at this
      show rest.length ≤ 3
      omega
    · exact h
  exact hpop

/-- A mailbox is changed and its count stays in range. -/
theorem EventBlock.InRange.setMail {e : EventBlock} (h : e.InRange) (n : AgentId) {m : Mailbox} (hm : m.count ≤ 15) :
    ({ e with mail := e.mail.set n m } : EventBlock).InRange := by
  refine ⟨h.1, fun k => ?_⟩
  show (e.mail.set n m)[k].count ≤ 15
  rw [set_getElem_fin]
  split
  · exact hm
  · exact h.2 k

theorem EventBlock.InRange.changeDetector {e : EventBlock} (h : e.InRange) (p : EvPin) (d : Detector) :
    (e.changeDetector p d).InRange := by
  have hset : (e.setDetector p d).InRange := by cases p <;> exact h
  unfold EventBlock.changeDetector
  split
  · exact hset
  · exact hset

theorem EventBlock.InRange.tickRaise {e : EventBlock} (h : e.InRange) (t : Timer) : (e.tickRaise t).InRange := by
  unfold EventBlock.tickRaise
  split
  · exact h
  · split <;> exact h

/-! ### The timer and the epoch generator -/

theorem epochPeriod_pos (select : BitVec 2) : 0 < epochPeriod select := by
  unfold epochPeriod; split_ifs <;> decide

/-- A tick leaves the compare, the clock and the prescaler. -/
theorem Timer.tick_range (t : Timer) :
    t.tick.compare = t.compare ∧ t.tick.clock = t.clock ∧ t.tick.prescaler = t.prescaler := by
  unfold Timer.tick
  cases t.mode <;> dsimp only <;> split_ifs <;> exact ⟨rfl, rfl, rfl⟩

theorem Timer.InRange.tick {t : Timer} (h : t.InRange) : t.tick.InRange := by
  obtain ⟨hc, hk, hp⟩ := t.tick_range
  unfold Timer.InRange; rw [hc, hk, hp]; exact h

/-- A write of TimerControl keeps the prescaler where it keeps the clock (R155). -/
theorem Timer.InRange.writeControl {t : Timer} (h : t.InRange) (v : Word) : (t.writeControl v).InRange := by
  refine ⟨h.1, ?_⟩
  unfold Timer.writeControl
  dsimp only
  split_ifs with hrestart
  · exact .inl rfl
  · simp only [Bool.or_eq_true, decide_eq_true_eq, not_or, not_not] at hrestart
    rw [hrestart.2]; exact h.2

/-- A write of TimerCompare never leaves 0 (R153). -/
theorem Timer.InRange.writeCompare {t : Timer} (h : t.InRange) (v : Word) : (t.writeCompare v).InRange := by
  unfold Timer.writeCompare
  split
  · exact h
  · rename_i hv
    exact ⟨Nat.one_le_iff_ne_zero.2 fun h0 => hv (BitVec.eq_of_toNat_eq h0), h.2⟩

/-! ### The shared operations -/

theorem State.LocalRange.raise {s : State} (h : s.LocalRange) (x : Source) : (s.raise x).LocalRange :=
  { h with ev := h.ev.raise x }

theorem State.LocalRange.respond {s : State} (h : s.LocalRange) (n : AgentId) (t : AgentTag) (o : Outcome) :
    (s.respond n t o).LocalRange := by
  rw [State.respond_eq]; exact { h with }

theorem State.LocalRange.addFault {s : State} (h : s.LocalRange) (k : FaultKind) (n : AgentId) (c : Option ContextId)
    (t : AgentTag) (q : RequestKind) (a : Word) : (s.addFault k n c t q a).LocalRange := by
  obtain ⟨hrecords, hlost⟩ := h.log
  unfold State.addFault
  split
  · exact { h with log := ⟨by simpa using by omega, hlost⟩, ev := h.ev.raise _ }
  · exact { h with log := ⟨hrecords, satInc_le hlost⟩, ev := h.ev.raise _ }

theorem State.LocalRange.setResv {s : State} (h : s.LocalRange) (n : AgentId) {r : Reservation} (hr : r.age ≤ 15) :
    ({ s with resv := s.resv.set n r } : State).LocalRange := by
  refine { h with resv := fun m => ?_ }
  show (s.resv.set n r)[m].age ≤ 15
  rw [set_getElem_fin]
  split
  · exact hr
  · exact h.resv m

theorem State.LocalRange.clearReservation {s : State} (h : s.LocalRange) (n : AgentId) :
    (s.clearReservation n).LocalRange := h.setResv n (Nat.zero_le _)

theorem State.LocalRange.reserve {s : State} (h : s.LocalRange) (n : AgentId) (b : BitVec 4) (a : Word) :
    (s.reserve n b a).LocalRange := h.setResv n (Nat.zero_le _)

theorem State.LocalRange.mapResv {s : State} (h : s.LocalRange) {f : AgentId → Reservation → Reservation}
    (hf : ∀ n r, r.age ≤ 15 → (f n r).age ≤ 15) : ({ s with resv := mapIdx f s.resv } : State).LocalRange := by
  refine { h with resv := fun n => ?_ }
  show (mapIdx f s.resv)[n].age ≤ 15
  rw [mapIdx_fin]; exact hf n _ (h.resv n)

theorem State.LocalRange.clearReservationsWhere {s : State} (h : s.LocalRange) (p : AgentId → Reservation → Bool) :
    (s.clearReservationsWhere p).LocalRange := by
  refine h.mapResv fun n r hr => ?_
  split
  · exact Nat.zero_le _
  · exact hr

theorem State.LocalRange.ageReservations {s : State} (h : s.LocalRange) : s.ageReservations.LocalRange := by
  refine h.mapResv fun n r hr => ?_
  unfold Reservation.older
  split_ifs
  · exact Nat.zero_le _
  · exact satInc_le hr
  · exact hr

theorem State.LocalRange.finishFault {s : State} (h : s.LocalRange) (k : FaultKind) (n : AgentId) (c : Option ContextId)
    (t : AgentTag) (a : Access) : (s.finishFault k n c t a).LocalRange := (h.respond ..).addFault ..

theorem State.LocalRange.faultRequest {s : State} (h : s.LocalRange) (r : Request) (k : FaultKind) (c : Option ContextId) :
    (s.faultRequest r k c).LocalRange := by
  unfold State.faultRequest
  split
  · exact (h.clearReservation _).finishFault ..
  · exact h.finishFault ..

theorem State.LocalRange.foldl_finishParked {s : State} (h : s.LocalRange) (k : FaultKind) (l : List Parked) :
    (l.foldl (fun t p => t.finishParked k p) s).LocalRange := by
  induction l generalizing s with
  | nil => exact h
  | cons p l ih => exact ih (h.finishFault ..)

theorem State.LocalRange.park {s : State} (h : s.LocalRange) (r : MissItem) : (s.park r).LocalRange :=
  { h with ev := h.ev.raiseIf _ _ }

theorem State.LocalRange.serveBacklog {s : State} (h : s.LocalRange) : s.serveBacklog.LocalRange :=
  { h with ev := h.ev.raiseIf _ _ }

theorem State.LocalRange.reportNotParked {s : State} (h : s.LocalRange) (r : Report) :
    (s.reportNotParked r).LocalRange := by
  unfold State.reportNotParked
  split
  · exact { h with ev := h.ev.raise _ }
  · exact { h with }

theorem State.LocalRange.issue {s : State} (h : s.LocalRange) (r : Request) (c : ContextId) (b : BitVec 4) (a : Word) :
    (s.issue r c b a).LocalRange := by
  unfold State.issue
  split
  · exact h
  · exact { h with }

theorem State.LocalRange.markEntry {s : State} (h : s.LocalRange) (hit : Option EntryId) (f : Entry → Entry) :
    (s.markEntry hit f).LocalRange := by
  unfold State.markEntry
  split
  · exact h
  · exact { h with }

theorem State.LocalRange.signalMailbox {s : State} (h : s.LocalRange) (n : AgentId) (c : Byte) :
    (s.signalMailbox n c).LocalRange :=
  { h with ev := (h.ev.setMail n (satInc_le (h.ev.2 n))).raise _ }

theorem State.LocalRange.wake {s : State} (h : s.LocalRange) : s.wake.LocalRange := by
  rw [State.wake_eq]; exact { h with }

theorem State.LocalRange.tick {s : State} (h : s.LocalRange) : s.tick.LocalRange :=
  { h with timer := h.timer.tick, ev := h.ev.tickRaise _ }

theorem State.LocalRange.epochTick {s : State} (h : s.LocalRange) : s.epochTick.LocalRange := by
  unfold State.epochTick
  split
  · exact h.tick
  · exact h

end Sys2Proof.Machine
end

section
/-! What a step of the machine can do, said once: every step is a chain of effects (`step_effects`), so a property that each
effect keeps is kept by every step (`step_induction`). -/

namespace Sys2Proof.Machine

/-! ### A request is decided -/

/-- How a request ends its decision step: with a fault, with a reported miss, parked, issued, or as CondFail (R31, R39, R81,
R82, R98). -/
inductive State.Decided (s : State) (r : Request) : State → Prop
  | fault (kind : FaultKind) (ctx : Option ContextId) : s.Decided r (s.faultRequest r kind ctx)
  | missed (ctx : ContextId) (report : Report) (notParked : report.notParked = true) :
      s.Decided r ((s.faultRequest r .miss (some ctx)).reportNotParked report)
  | parked (ctx : ContextId) (key : Key) (room : s.miss.parked.length < 16) : s.Decided r (s.park (r.missItem ctx key))
  | issued {t : State} (ctx : ContextId) (bank : BitVec 4) (addr : Word) (hit : Option EntryId) (f : Entry → Entry)
      (resv : Vector Reservation 8)
      (same : t = { (s.issue r ctx bank addr).markEntry hit f with resv := resv })
      (range : s.LocalRange → t.LocalRange) : s.Decided r t
  | condFail (hit : Option EntryId) (f : Entry → Entry) :
      s.Decided r (((s.respond r.agent r.tag .condFail).markEntry hit f).clearReservation r.agent)

theorem missRequest_decided (s : State) (r : Request) (ctx : ContextId) (key : Key) :
    s.Decided r (s.missRequest r ctx key) := by
  unfold State.missRequest
  split
  · split
    · exact .fault ..
    · exact .parked _ _ (by omega)
  · exact .missed _ _ rfl

theorem passRequest_decided (s : State) (r : Request) (ctx : ContextId) (bank : BitVec 4) (addr : Word)
    (hit : Option EntryId) : s.Decided r (s.passRequest r ctx bank addr hit) := by
  unfold State.passRequest
  split
  · exact .issued ctx bank addr hit (·.markIssued r.acc.kind) _ rfl fun h => (h.issue ..).markEntry ..
  · exact .issued ctx bank addr hit (·.markIssued r.acc.kind) _ rfl fun h => (h.issue ..).markEntry ..
  · exact .issued ctx bank addr hit _ _ rfl fun h => ((h.issue ..).markEntry ..).clearReservationsWhere _
  · exact .issued ctx bank addr hit _ _ rfl fun h => ((h.issue ..).markEntry ..).reserve ..
  · split
    · exact .issued ctx bank addr hit _ _ rfl fun h =>
        (((h.issue ..).markEntry ..).clearReservationsWhere _).clearReservation _
    · exact .condFail ..

/-- The decision of a request ends in one of five ways. -/
theorem decideRequest_decided (s : State) (r : Request) : s.Decided r (s.decideRequest r) := by
  unfold State.decideRequest
  split
  · exact .fault ..
  · split
    · exact .fault ..
    · split
      · exact .fault ..
      · exact missRequest_decided ..
      · exact passRequest_decided ..

theorem State.Decided.localRange {s t : State} {r : Request} (h : s.Decided r t) (hs : s.LocalRange) : t.LocalRange := by
  cases h with
  | fault => exact hs.faultRequest ..
  | missed => exact (hs.faultRequest ..).reportNotParked _
  | parked => exact hs.park _
  | issued _ _ _ _ _ _ _ range => exact range hs
  | condFail => exact ((hs.respond ..).markEntry ..).clearReservation _

/-! ### A downstream response arrives -/

/-- The response for an orphaned record is discarded: its gateway tag is freed and its port's flush count goes down by 1
(R112). -/
def State.discard (s : State) (g : GatewayTag) (r : OutRecord) : State :=
  (s.freeGateway g).setPort r.agent fun p => { p with flush := p.flush - 1 }

/-- A response is stray, or discarded for an orphaned record, or a completion; the last two for a request that was sent
(R109 to R113). -/
theorem downResponse_cases (s : State) (g : GatewayTag) (st : MemStatus) (d : List Byte) :
    s.downResponse g st d = { s with sys := { s.sys with stray := true } } ∨
    ∃ r, s.sys.table[g] = some r ∧ s.sys.unsent g = false ∧
      (r.orphaned = true ∧ s.downResponse g st d = s.discard g r ∨
        r.orphaned = false ∧ s.downResponse g st d = (s.relay r st d).freeGateway g) := by
  unfold State.downResponse
  cases hg : s.sys.table[g] with
  | none => exact .inl rfl
  | some r =>
    dsimp only
    by_cases hsent : s.sys.unsent g = true
    · exact .inl (if_pos hsent)
    · rw [if_neg hsent]
      refine .inr ⟨r, rfl, by simpa using hsent, ?_⟩
      cases ho : r.orphaned with
      | true => exact .inl ⟨rfl, rfl⟩
      | false => exact .inr ⟨rfl, rfl⟩

/-- A port after a response was discarded. -/
theorem discard_port (s : State) (g : GatewayTag) (r : OutRecord) (n : AgentId) :
    (s.discard g r).ports[n] =
      { s.ports[n] with flush := if n = r.agent then s.ports[n].flush - 1 else s.ports[n].flush } := by
  show (s.ports.set r.agent _)[n] = _
  rw [set_getElem_fin]
  by_cases hn : n = r.agent
  · subst hn; simp
  · simp [hn]

/-! ### Which step is next -/

theorem replayReady_of_nextStep {s : State} (h : s.nextStep = some .replay) : s.ReplayReady ∧ s.dp.replay ≠ [] := by
  by_cases hu : s.NoUrgentStep
  · rw [nextStep_of_noUrgent hu] at h
    split at h
    · rename_i hr; exact ⟨⟨hu, hr.2⟩, hr.1⟩
    · split at h
      · cases h
      · split at h
        · cases hc : s.chosenPort <;> simp [hc] at h
        · cases h
  · rcases nextStep_of_urgent hu with h' | ⟨n, h'⟩ <;> rw [h'] at h <;> cases h

theorem servesItem_of_nextStep {s : State} {n : AgentId} (h : s.nextStep = some (.newItem n)) :
    ∃ it rest, s.ServesItem n it rest := by
  rcases takeNewItem_cases s (fun _ => true) with _ | ⟨m, it, rest, hserves, -⟩
  · by_cases hu : s.NoUrgentStep
    · rw [nextStep_of_noUrgent hu] at h
      split at h
      · cases h
      · split at h
        · cases h
        · rename_i hcmd
          split at h
          · rename_i hreplay
            have hchosen : s.chosenPort = some n := by simpa using h
            have hserved := (chosenPort_eq_some s n).1 hchosen
            obtain ⟨it, hit, -⟩ := hserved.1
            obtain ⟨rest, hline⟩ := List.head?_eq_some_iff.1 hit
            have hfifo : s.cmd.fifo = [] ∨ 4 ≤ s.cmd.results.length := by
              by_cases hf : s.cmd.fifo = []
              · exact .inl hf
              · exact .inr (by by_contra hlt; exact hcmd ⟨hf, by omega⟩)
            exact ⟨it, rest, ⟨hu, hreplay, hfifo⟩, hserved, hline⟩
          · cases h
    · rcases nextStep_of_urgent hu with h' | ⟨m, h'⟩ <;> rw [h'] at h <;> cases h
  · have hnext := nextStep_newItem hserves.1
    rw [(chosenPort_eq_some s m).2 hserves.2.1, h] at hnext
    obtain rfl : n = m := by simpa using hnext
    exact ⟨it, rest, hserves⟩

/-- A served item that is neither a Signal nor a conflict item is taken only with a credit free (R29, R30). -/
theorem State.ServesItem.hasCredit {s : State} {n : AgentId} {it : Item} {rest : List Item} (h : s.ServesItem n it rest)
    (hfree : it.free = false) : s.HasCredit := by
  obtain ⟨-, ⟨⟨it', hit, -, hgate⟩, -⟩, hline⟩ := h
  obtain rfl : it = it' := by rw [hline] at hit; exact Option.some.inj hit
  rcases hgate with hf | hg
  · rw [hfree] at hf; cases hf
  · exact hg.1

/-! ### Effects -/

/-- `t` differs from `s` only off the requests' path (in no port, in nothing of the miss parking block, the replay queue or the
system port), and the blocks that hold no request stay in range. -/
structure State.QuietTo (s t : State) : Prop where
  ports : t.ports = s.ports
  miss : t.miss = s.miss
  replay : t.dp.replay = s.dp.replay
  sys : t.sys = s.sys
  range : s.LocalRange → t.LocalRange

theorem State.QuietTo.trans {s t u : State} (h : s.QuietTo t) (h' : t.QuietTo u) : s.QuietTo u :=
  ⟨h'.ports.trans h.ports, h'.miss.trans h.miss, h'.replay.trans h.replay, h'.sys.trans h.sys, h'.range ∘ h.range⟩

/-- The state after the head of the replay queue is taken, with `rest` left in it (R88). -/
def State.replayTaken (s : State) (rest : List MissItem) : State := { s with dp := { s.dp with replay := rest } }

/-- One thing that the machine can do to its state within a step. -/
inductive Effect (s : State) : State → Prop
  | quiet {t : State} (h : s.QuietTo t) : Effect s t
  | powerOn (pins : Pins) : Effect s { State.poweredOn pins with out := s.out, pending := s.pending }
  | admission (n : AgentId) (m : Message) : Effect s (s.takeIn n m)
  | resetLow (n : AgentId) : Effect s (s.assertPortReset n)
  | resetHigh (n : AgentId) : Effect s (s.releasePortReset n)
  | portReset (n : AgentId) : Effect s (s.portResetStep n)
  | newItem (n : AgentId) (it : Item) (rest : List Item) (h : s.ServesItem n it rest) :
      Effect s ((s.afterTaking n rest).decideItem n it)
  | replay (r : MissItem) (rest : List MissItem) (h : s.ReplayReady) (hr : s.dp.replay = r :: rest) :
      Effect s ((s.replayTaken rest).decideRequest r.request)
  | ageParked : Effect s s.ageParked
  | softReset (h : ∀ g : GatewayTag, s.sys.table[g] = none) : Effect s s.softReset
  | releaseKey (k : Key) : Effect s (s.releaseKey k)
  | abortKey (k : Key) : Effect s (s.abortKey k)
  | popReport : Effect s { s with miss := s.miss.pop }
  | serveBacklog : Effect s s.serveBacklog
  | send : Effect s s.sendDownstream
  | receive (g : GatewayTag) (status : MemStatus) (data : List Byte) : Effect s (s.downResponse g status data)

/-- A chain of effects leads from one state to the other. -/
abbrev Effects : State → State → Prop := Relation.ReflTransGen Effect

theorem State.QuietTo.effects {s t : State} (h : s.QuietTo t) : Effects s t := .single (.quiet h)

theorem Effects.emit {s t : State} (h : Effects s t) (o : Out) : Effects s (t.emit o) :=
  h.tail (.quiet ⟨rfl, rfl, rfl, rfl, fun h => { h with }⟩)

theorem Effects.serve {s t : State} (h : Effects s t) : Effects s t.serveBacklog := h.tail .serveBacklog

/-! ### Changes of one block -/

theorem quiet_ev (s : State) (e : EventBlock) (h : s.ev.InRange → e.InRange) : s.QuietTo { s with ev := e } :=
  ⟨rfl, rfl, rfl, rfl, fun hs => { hs with ev := h hs.ev }⟩

theorem quiet_cmd (s : State) (c : CmdBlock) (h : s.cmd.InRange → c.InRange) : s.QuietTo { s with cmd := c } :=
  ⟨rfl, rfl, rfl, rfl, fun hs => { hs with cmd := h hs.cmd }⟩

theorem quiet_log (s : State) (l : FaultLog) (h : s.log.InRange → l.InRange) : s.QuietTo { s with log := l } :=
  ⟨rfl, rfl, rfl, rfl, fun hs => { hs with log := h hs.log }⟩

theorem quiet_timer (s : State) (t : Timer) (h : s.timer.InRange → t.InRange) : s.QuietTo { s with timer := t } :=
  ⟨rfl, rfl, rfl, rfl, fun hs => { hs with timer := h hs.timer }⟩

theorem quiet_power (s : State) (p : Power) : s.QuietTo { s with power := p } :=
  ⟨rfl, rfl, rfl, rfl, fun hs => { hs with }⟩

theorem quiet_raise (s : State) (x : Source) : s.QuietTo (s.raise x) := quiet_ev s _ fun h => h.raise x

theorem quiet_wake (s : State) : s.QuietTo s.wake := by
  rw [State.wake_eq]; exact quiet_power s _

/-- A list without its head is no longer. -/
theorem length_tail_le {α : Type} {l : List α} {n : Nat} (h : l.length ≤ n) : l.tail.length ≤ n := by
  rw [List.length_tail]; omega

/-! ### Host accesses -/

theorem quiet_issueCommand (s : State) (v : Word) : s.QuietTo (s.issueCommand v) := by
  unfold State.issueCommand
  split
  · rename_i hroom
    refine State.QuietTo.trans ?_ (quiet_wake _)
    exact quiet_cmd s _ fun h => ⟨by rw [List.length_append]; exact hroom, h.2⟩
  · exact ((quiet_cmd s { s.cmd with dropped := true } fun h => h).trans (quiet_raise _ .serviceError)).trans
      (quiet_wake _)

theorem quiet_writeArg (s : State) (i : Fin 4) (v : Word) : s.QuietTo (s.writeArg i v) := quiet_cmd s _ fun h => h

theorem quiet_writeCmdStatus (s : State) (v : Word) (b : Bool) : s.QuietTo (s.writeCmdStatus v b) :=
  quiet_cmd s _ fun h => h

theorem quiet_popResult (s : State) : s.QuietTo s.popResult := quiet_cmd s _ fun h => ⟨h.1, length_tail_le h.2⟩

theorem quiet_popFault (s : State) : s.QuietTo s.popFault := quiet_log s _ fun h => ⟨length_tail_le h.1, h.2⟩

theorem quiet_writeExtConfig (s : State) (v : Word) : s.QuietTo { s with ev := s.ev.writeExtConfig v } :=
  quiet_ev s _ fun h => (h.changeDetector ..).changeDetector ..

theorem quiet_writeDeviceConfig (s : State) (v : Word) : s.QuietTo (s.writeDeviceConfig v) := by
  refine ⟨rfl, rfl, rfl, rfl, fun h => { h with epoch := ?_ }⟩
  unfold State.writeDeviceConfig
  dsimp only
  split_ifs with hsel
  · rw [hsel]; exact h.epoch
  · exact epochPeriod_pos _

theorem missPop_effects (s : State) : Effects s s.missPop := by
  unfold State.missPop
  split
  · exact Effects.serve (.single .popReport)
  · exact .refl

theorem readClaim_effects (s : State) : Effects s s.readClaim :=
  (quiet_ev s _ fun h => h.claim).effects.emit _

theorem readSignalCode_effects (s : State) (n : AgentId) : Effects s (s.readSignalCode n) :=
  (quiet_ev s _ fun h => h.setMail n (Nat.zero_le _)).effects.emit _

theorem readEpochStatus_effects (s : State) (b : Bool) : Effects s (s.readEpochStatus b) :=
  let e : EpochGen := { s.epoch with flag := false, armed := true, readNow := s.epoch.readNow || b }
  Effects.emit (s := s) (t := { s with epoch := e }) (.single (.quiet ⟨rfl, rfl, rfl, rfl, fun h => { h with }⟩)) _

theorem writeEffect_effects (s : State) (o : BitVec 8) (v : Word) : Effects s (s.writeEffect o v) := by
  unfold State.writeEffect
  split
  · exact (quiet_writeDeviceConfig s v).effects
  · exact (quiet_writeArg s 0 v).effects
  · exact (quiet_writeArg s 1 v).effects
  · exact (quiet_writeArg s 2 v).effects
  · exact (quiet_writeArg s 3 v).effects
  · exact (quiet_issueCommand s v).effects
  · exact (quiet_writeCmdStatus s v false).effects
  · exact (quiet_popResult s).effects
  · exact missPop_effects s
  · exact (quiet_popFault s).effects
  · exact (quiet_ev s (s.ev.writeRaise v) fun h => h).effects
  · exact (quiet_ev s (s.ev.writeClear v 0) fun h => h).effects
  · exact (quiet_ev s (s.ev.writePermit v) fun h => h).effects
  · exact (quiet_ev s (s.ev.writeControl v) fun h => h).effects
  · exact (quiet_ev s _ fun h => h.complete _).effects
  · exact (quiet_ev s (s.ev.writeServiceStatus v) fun h => h).effects
  · exact (quiet_writeExtConfig s v).effects
  · exact (quiet_timer s _ fun h => h.writeControl v).effects
  · exact (quiet_timer s _ fun h => h.writeCompare v).effects
  · exact (quiet_timer s (s.timer.writeStatus v false) fun h => h).effects
  · exact .refl

theorem hostRead_effects (s : State) (o : BitVec 8) : Effects s (s.hostRead o) := by
  unfold State.hostRead
  split
  · exact readEpochStatus_effects ..
  · exact readClaim_effects s
  iterate 8 exact readSignalCode_effects ..
  · exact Effects.emit .refl _

theorem hostAccess_effects (s : State) (a : HostAccess) : Effects s (s.hostAccess a) := by
  unfold State.hostAccess
  split
  · split
    · exact (writeEffect_effects ..).emit _
    · exact hostRead_effects ..
  · exact Effects.emit .refl _

/-! ### Time -/

theorem quiet_epochEvent (s : State) : s.QuietTo s.epochEvent :=
  ⟨rfl, rfl, rfl, rfl, fun h => { h with epoch := epochPeriod_pos _ }⟩

theorem quiet_tick (s : State) : s.QuietTo s.tick := ⟨rfl, rfl, rfl, rfl, fun h => h.tick⟩

theorem quiet_clockTick (s : State) : s.QuietTo s.clockTick :=
  (quiet_timer s { s.timer with prescaler := 0 } fun h => ⟨h.1, .inl rfl⟩).trans (quiet_tick _)

theorem quiet_epochPeriodTick (s : State) : s.QuietTo s.epochPeriodTick := by
  unfold State.epochPeriodTick
  split
  · exact quiet_epochEvent s
  · rename_i hlt
    exact ⟨rfl, rfl, rfl, rfl, fun h => { h with epoch := Nat.lt_of_not_le hlt }⟩

theorem quiet_timerPeriod (s : State) : s.QuietTo s.timerPeriod := by
  unfold State.timerPeriod
  split
  · split
    · exact quiet_clockTick s
    · rename_i hlt
      exact quiet_timer s _ fun h => ⟨h.1, .inr (Nat.lt_of_not_le hlt)⟩
  · exact quiet_timer s s.timer fun h => h

theorem quiet_detectorPeriod (s : State) (p : EvPin) : s.QuietTo (s.detectorPeriod p) :=
  quiet_ev s _ fun h => h.changeDetector ..

theorem quiet_tbclk (s : State) : s.QuietTo s.tbclk :=
  (((quiet_epochPeriodTick s).trans (quiet_timerPeriod _)).trans (quiet_detectorPeriod _ _)).trans
    (quiet_detectorPeriod _ _)

/-! ### Steps of the decision point -/

theorem quiet_dropEpoch (s : State) : s.QuietTo s.dropEpoch := ⟨rfl, rfl, rfl, rfl, fun h => { h with }⟩

theorem quiet_ageReservations (s : State) : s.QuietTo s.ageReservations :=
  ⟨rfl, rfl, rfl, rfl, fun h => h.ageReservations⟩

theorem quiet_epochTick (s : State) : s.QuietTo s.epochTick :=
  ⟨by simp, by simp, by simp, by simp, fun h => h.epochTick⟩

theorem epochDuties_effects (s : State) : Effects s s.dropEpoch.epochDuties :=
  (((quiet_dropEpoch s).effects.tail .ageParked).tail (.quiet (quiet_ageReservations _))).tail
    (.quiet (quiet_epochTick _))

theorem takeEpochStep_effects (s : State) : Effects s s.takeEpochStep := by
  unfold State.takeEpochStep State.epochStep
  split
  · split
    · rename_i hdue
      have hfree : ∀ g : GatewayTag, s.dropEpoch.sys.table[g] = none := by
        simp only [State.softResetDue, Bool.and_eq_true] at hdue
        exact (allCreditsFree_iff _).1 hdue.2
      exact (quiet_dropEpoch s).effects.tail (.softReset hfree)
    · exact (epochDuties_effects s).serve
  · exact .refl

theorem takeNewItem_effects (s : State) (p : Item → Bool) : Effects s (s.takeNewItem p) := by
  rcases takeNewItem_cases s p with h | ⟨n, it, rest, hserves, -, h⟩ <;> rw [h]
  exact Effects.serve (.single (.newItem n it rest hserves))

theorem replayDecided_effects {s : State} (h : s.ReplayReady) : Effects s s.replayDecided := by
  unfold State.replayDecided
  split
  · exact .refl
  · rename_i r rest hr
    exact .single (.replay r rest h hr)

theorem tickWhere_effects (s : State) (p : Timer → Bool) : Effects s (s.tickWhere p) := by
  unfold State.tickWhere
  split_ifs
  · exact takeEpochStep_effects s
  · exact .refl
  · exact (quiet_clockTick s).effects
  · exact .refl

/-! ### Host commands -/

/-- The body of a command reaches its state from `s` by effects, and leaves the command block to the completion. -/
structure CmdResult.From (r : CmdResult) (s : State) : Prop where
  effects : Effects s r.state
  cmd : r.state.cmd = s.cmd

theorem from_fails (s : State) (st : Status) : (s.fails st).From s := ⟨.refl, rfl⟩

/-- A body that changes nothing. -/
theorem from_same (s : State) (st : Status) (d0 d1 : Word) : (CmdResult.mk s st d0 d1).From s := ⟨.refl, rfl⟩

/-- A body that is quiet and leaves the command block. -/
theorem CmdResult.From.of_quiet {s : State} {r : CmdResult} (h : s.QuietTo r.state) (hc : r.state.cmd = s.cmd) :
    r.From s := ⟨h.effects, hc⟩

theorem quiet_clearReservationsWhere (s : State) (p : AgentId → Reservation → Bool) :
    s.QuietTo (s.clearReservationsWhere p) := ⟨rfl, rfl, rfl, rfl, fun h => h.clearReservationsWhere _⟩

theorem quiet_clearFrame (s : State) (b : BitVec 4) (f : BitVec 20) : s.QuietTo (s.clearFrame b f) :=
  quiet_clearReservationsWhere s _

theorem quiet_cache (s : State) (c : TransCache) : s.QuietTo { s with cache := c } :=
  ⟨rfl, rfl, rfl, rfl, fun h => { h with }⟩

theorem quiet_setEntry (s : State) (i : EntryId) (e : Entry) : s.QuietTo (s.setEntry i e) := quiet_cache s _

theorem quiet_setContext (s : State) (c : ContextId) (f : Context → Context) : s.QuietTo (s.setContext c f) :=
  ⟨rfl, rfl, rfl, rfl, fun h => { h with }⟩

theorem cmdInsertAddress_from (s : State) (a : Vector Word 4) : (s.cmdInsertAddress a).From s := by
  unfold State.cmdInsertAddress State.insertAddress
  split
  · split
    · exact .of_quiet ((quiet_clearFrame s _ _).trans (quiet_setEntry _ _ _)) rfl
    · split
      · exact .of_quiet (quiet_setEntry s _ _) rfl
      · split
        · refine .of_quiet ?_ rfl
          exact ((quiet_clearFrame s _ _).trans (quiet_setEntry _ _ _)).trans (quiet_cache _ _)
        · exact from_fails ..
  · exact from_fails ..

theorem cmdInsertRights_from (s : State) (a : Vector Word 4) : (s.cmdInsertRights a).From s := by
  unfold State.cmdInsertRights State.insertRights
  split
  · split
    · exact from_fails ..
    · exact ⟨(quiet_setEntry s _ _).effects.tail (.releaseKey _), rfl⟩
  · exact from_fails ..

theorem cmdPurgeEntry_from (s : State) (a : Vector Word 4) : (s.cmdPurgeEntry a).From s := by
  unfold State.cmdPurgeEntry
  split
  · split
    · exact from_fails ..
    · exact .of_quiet ((quiet_clearFrame s _ _).trans (quiet_setEntry _ _ _)) rfl
  · exact from_fails ..

theorem quiet_purgeWhere (s : State) (p : Entry → Bool) : s.QuietTo (s.purgeWhere p) := by
  unfold State.purgeWhere
  exact (quiet_clearReservationsWhere s _).trans (quiet_cache _ _)

theorem purgeMany_from (s : State) (p : Entry → Bool) : (s.purgeMany p).From s := by
  unfold State.purgeMany
  exact ⟨(quiet_purgeWhere s p).effects, State.purgeWhere_cmd s p⟩

theorem cmdPurgeSegment_from (s : State) (a : Vector Word 4) : (s.cmdPurgeSegment a).From s := by
  unfold State.cmdPurgeSegment
  split
  · exact purgeMany_from ..
  · exact from_fails ..

theorem cmdPurgeAll_from (s : State) (a : Vector Word 4) : (s.cmdPurgeAll a).From s := by
  unfold State.cmdPurgeAll
  split
  · exact purgeMany_from ..
  · exact from_fails ..

theorem cmdReadEntry_from (s : State) (a : Vector Word 4) : (s.cmdReadEntry a).From s := by
  unfold State.cmdReadEntry
  split
  · exact from_same ..
  · exact from_fails ..

theorem cmdProbe_from (s : State) (a : Vector Word 4) : (s.cmdProbe a).From s := by
  unfold State.cmdProbe State.probeAnswer
  split
  · split <;> exact from_same ..
  · exact from_fails ..

theorem cmdBindAgent_from (s : State) (a : Vector Word 4) : (s.cmdBindAgent a).From s := by
  unfold State.cmdBindAgent
  split
  · split
    · exact from_same ..
    · exact .of_quiet ⟨rfl, rfl, rfl, rfl, fun h => { h with }⟩ rfl
  · exact from_fails ..

theorem cmdUnbindAgent_from (s : State) (a : Vector Word 4) : (s.cmdUnbindAgent a).From s := by
  unfold State.cmdUnbindAgent
  split
  · split
    · exact from_same ..
    · exact .of_quiet ⟨rfl, rfl, rfl, rfl, fun h => { h with resv := (h.clearReservation _).resv }⟩ rfl
  · exact from_fails ..

theorem cmdWriteContext_from (s : State) (a : Vector Word 4) : (s.cmdWriteContext a).From s := by
  unfold State.cmdWriteContext
  split
  · split
    · refine .of_quiet ?_ rfl
      dsimp only
      exact quiet_setContext ..
    · exact from_fails ..
  · exact from_fails ..

theorem cmdReadContext_from (s : State) (a : Vector Word 4) : (s.cmdReadContext a).From s := by
  unfold State.cmdReadContext
  split
  · split
    · exact from_same ..
    · exact from_fails ..
  · exact from_fails ..

theorem cmdSetSuspended_from (s : State) (a : Vector Word 4) (v : Bool) : (s.cmdSetSuspended a v).From s := by
  unfold State.cmdSetSuspended
  split
  · refine .of_quiet ?_ rfl
    dsimp only
    exact quiet_setContext ..
  · exact from_fails ..

theorem abortKey_cmd (s : State) (k : Key) : (s.abortKey k).cmd = s.cmd :=
  foldl_keeps _ State.cmd (fun _ _ => State.finishParked_cmd ..) _ _

theorem cmdAbortParked_from (s : State) (a : Vector Word 4) : (s.cmdAbortParked a).From s := by
  unfold State.cmdAbortParked
  split
  · split
    · exact ⟨.single (.abortKey _), abortKey_cmd ..⟩
    · exact from_fails ..
  · exact from_fails ..

theorem cmdClearReservation_from (s : State) (a : Vector Word 4) : (s.cmdClearReservation a).From s := by
  unfold State.cmdClearReservation
  split
  · exact .of_quiet ⟨rfl, rfl, rfl, rfl, fun h => h.clearReservation _⟩ rfl
  · exact from_fails ..

theorem cmdEnterStandby_from (s : State) (a : Vector Word 4) : (s.cmdEnterStandby a).From s := by
  unfold State.cmdEnterStandby
  split
  · exact .of_quiet (quiet_power s _) rfl
  · exact from_fails ..

theorem cmdArmSoftReset_from (s : State) (a : Vector Word 4) : (s.cmdArmSoftReset a).From s := by
  unfold State.cmdArmSoftReset
  split
  · exact from_fails ..
  · exact .of_quiet (quiet_power s _) rfl

theorem commandBody_from (s : State) (k : Byte) (a : Vector Word 4) : (s.commandBody k a).From s := by
  generalize hbody : s.commandBody k = body
  unfold State.commandBody at hbody
  split at hbody <;> subst hbody
  · exact cmdInsertAddress_from s a
  · exact cmdInsertRights_from s a
  · exact cmdPurgeEntry_from s a
  · exact cmdPurgeSegment_from s a
  · exact cmdPurgeAll_from s a
  · exact cmdReadEntry_from s a
  · exact cmdProbe_from s a
  · exact cmdBindAgent_from s a
  · exact cmdUnbindAgent_from s a
  · exact cmdWriteContext_from s a
  · exact cmdReadContext_from s a
  · exact cmdSetSuspended_from s a true
  · exact cmdSetSuspended_from s a false
  · exact cmdAbortParked_from s a
  · exact cmdClearReservation_from s a
  · exact cmdEnterStandby_from s a
  · exact cmdArmSoftReset_from s a
  · exact from_fails ..

/-- The completion of a command, with room for its result (R128, R129). -/
theorem completeCommand_effects {s : State} {r : CmdResult} (h : r.From s) (hroom : s.cmd.results.length < 4) (k : Byte) :
    Effects s (State.completeCommand r k) := by
  refine h.effects.tail (.quiet ⟨rfl, rfl, rfl, rfl, fun hr => ?_⟩)
  refine { hr with cmd := ⟨length_tail_le hr.cmd.1, ?_⟩, ev := hr.ev.raise _ }
  show (r.state.cmd.results ++ [_]).length ≤ 4
  rw [List.length_append, h.cmd]; exact hroom

/-- A host command step reaches its state by effects, whatever body it runs. -/
theorem commandStep_effects (s : State) (p : Byte → Bool) {body : Vector Word 4 → CmdResult}
    (hbody : ∀ a, (body a).From s) : Effects s (s.commandStep p body) := by
  rcases commandStep_cases s p body with h | ⟨k, a, hhead, -, h⟩ <;> rw [h]
  rw [← finishCommand_eq]
  exact (completeCommand_effects (hbody a) hhead.1.2.2 k).serve

theorem execBacklogService_effects {s t : State} (h : execBacklogService s = .next t) : Effects s t := by
  rcases execBacklogService_cases s with hsame | ⟨u, hu, -, hserve⟩
  · rw [hsame] at h; cases h; exact .refl
  · rw [hserve] at h; cases h
    refine Effects.serve ?_
    unfold State.beforeService at hu
    split at hu
    · split at hu
      · cases hu; exact epochDuties_effects s
      · cases hu
    · cases hu
    · rename_i hnext
      cases hu; exact replayDecided_effects (replayReady_of_nextStep hnext).1
    · rename_i hnext
      obtain ⟨e, -, rfl⟩ := Option.map_eq_some_iff.1 hu
      exact completeCommand_effects (commandBody_from ..) (commandReady_of_nextStep hnext).1.2.2 _
    · rename_i n hnext
      obtain ⟨it, rest, hserves⟩ := servesItem_of_nextStep hnext
      cases hu
      unfold State.newItemDecided
      rw [hserves.2.2]
      exact .single (.newItem n it rest hserves)
    · cases hu

/-! ### Every command -/

theorem Effects.of_next {s u t : State} (h : (Host.Outcome.next u : Answer) = .next t) (hu : Effects s u) :
    Effects s t := by
  cases h; exact hu

/-- Every command that answers with a state reaches it by effects. -/
theorem exec_effects {c : Instr} {s t : State} (h : exec c s = .next t) : Effects s t := by
  cases c with
  | powerOnReset pins => exact .of_next h (.single (.powerOn pins))
  | admission n m =>
    have hadm : (if m.linkOk then .next (s.takeIn n m) else .fault .linkBroken : Answer) = .next t := h
    split at hadm
    · exact .of_next hadm (.single (.admission n m))
    · cases hadm
  | agrstNAssertion n => exact .of_next h (.single (.resetLow n))
  | agrstNRelease n => exact .of_next h (.single (.resetHigh n))
  | portResetStep =>
    refine .of_next h ?_
    split
    · exact .single (.portReset _)
    · exact .refl
  | newAgentItemStep => exact .of_next h (takeNewItem_effects ..)
  | signal => exact .of_next h (takeNewItem_effects ..)
  | tagInUse => exact .of_next h (takeNewItem_effects ..)
  | replayStep =>
    refine .of_next h ?_
    split
    · rename_i hnext
      exact (replayDecided_effects (replayReady_of_nextStep hnext).1).serve
    · exact .refl
  | downstreamRequest => exact .of_next h (.single .send)
  | downstreamResponse g st d => exact .of_next h (.single (.receive g st d))
  | epochEvent => exact .of_next h (quiet_epochEvent s).effects
  | epochStep => exact .of_next h (takeEpochStep_effects s)
  | missTimeout =>
    refine .of_next h ?_
    split
    · exact takeEpochStep_effects s
    · exact .refl
  | reservationExpiry =>
    refine .of_next h ?_
    split
    · exact takeEpochStep_effects s
    · exact .refl
  | backlogService => exact execBacklogService_effects h
  | insertAddress => exact .of_next h (commandStep_effects _ _ (cmdInsertAddress_from s))
  | insertRights => exact .of_next h (commandStep_effects _ _ (cmdInsertRights_from s))
  | purgeEntry => exact .of_next h (commandStep_effects _ _ (cmdPurgeEntry_from s))
  | purgeSegment => exact .of_next h (commandStep_effects _ _ (cmdPurgeSegment_from s))
  | purgeAll => exact .of_next h (commandStep_effects _ _ (cmdPurgeAll_from s))
  | readEntry => exact .of_next h (commandStep_effects _ _ (cmdReadEntry_from s))
  | probe => exact .of_next h (commandStep_effects _ _ (cmdProbe_from s))
  | bindAgent => exact .of_next h (commandStep_effects _ _ (cmdBindAgent_from s))
  | unbindAgent => exact .of_next h (commandStep_effects _ _ (cmdUnbindAgent_from s))
  | writeContext => exact .of_next h (commandStep_effects _ _ (cmdWriteContext_from s))
  | readContext => exact .of_next h (commandStep_effects _ _ (cmdReadContext_from s))
  | suspendContext => exact .of_next h (commandStep_effects _ _ (cmdSetSuspended_from s · true))
  | resumeContext => exact .of_next h (commandStep_effects _ _ (cmdSetSuspended_from s · false))
  | abortParked => exact .of_next h (commandStep_effects _ _ (cmdAbortParked_from s))
  | clearReservation => exact .of_next h (commandStep_effects _ _ (cmdClearReservation_from s))
  | enterStandby => exact .of_next h (commandStep_effects _ _ (cmdEnterStandby_from s))
  | armSoftReset => exact .of_next h (commandStep_effects _ _ (cmdArmSoftReset_from s))
  | badCommand => exact .of_next h (commandStep_effects _ _ fun _ => from_fails ..)
  | cmdIssue v => exact .of_next h ((quiet_issueCommand s v).effects.emit _)
  | resultPop v => exact .of_next h ((quiet_popResult s).effects.emit _)
  | missPop v => exact .of_next h ((missPop_effects s).emit _)
  | faultPop v => exact .of_next h ((quiet_popFault s).effects.emit _)
  | cmdDroppedClear v b => exact .of_next h ((quiet_writeCmdStatus s v b).effects.emit _)
  | eventRaise v => exact .of_next h ((quiet_ev s (s.ev.writeRaise v) fun h => h).effects.emit _)
  | eventClear v m => exact .of_next h ((quiet_ev s (s.ev.writeClear v m) fun h => h).effects.emit _)
  | eventPermit v => exact .of_next h ((quiet_ev s (s.ev.writePermit v) fun h => h).effects.emit _)
  | deliverEnable v => exact .of_next h ((quiet_ev s (s.ev.writeControl v) fun h => h).effects.emit _)
  | claim => exact .of_next h (readClaim_effects s)
  | complete v => exact .of_next h ((quiet_ev s _ fun h => h.complete _).effects.emit _)
  | serviceStatusClear v => exact .of_next h ((quiet_ev s (s.ev.writeServiceStatus v) fun h => h).effects.emit _)
  | extEventConfig v => exact .of_next h ((quiet_writeExtConfig s v).effects.emit _)
  | evPinChange p level =>
    exact .of_next h (quiet_ev s (s.ev.setDetector p ((s.ev.detector p).pinChange level))
      fun he => by cases p <;> exact he).effects
  | filteredLevelChange p => exact .of_next h (quiet_ev s _ fun h => h.changeDetector p _).effects
  | signalCodeRead n => exact .of_next h (readSignalCode_effects s n)
  | epochStatusRead b => exact .of_next h (readEpochStatus_effects s b)
  | deviceConfig v => exact .of_next h ((quiet_writeDeviceConfig s v).effects.emit _)
  | timerControl v => exact .of_next h ((quiet_timer s _ fun h => h.writeControl v).effects.emit _)
  | resetAction v => exact .of_next h ((quiet_timer s _ fun h => h.writeControl (v ||| 0x100)).effects.emit _)
  | timerCompare v => exact .of_next h ((quiet_timer s _ fun h => h.writeCompare v).effects.emit _)
  | timerStatusClear v b => exact .of_next h ((quiet_timer s (s.timer.writeStatus v b) fun h => h).effects.emit _)
  | timerTick => exact .of_next h (tickWhere_effects ..)
  | intervalMatch => exact .of_next h (tickWhere_effects ..)
  | timerOverflow => exact .of_next h (tickWhere_effects ..)
  | srstNLow => exact .of_next h (quiet_power s _).effects
  | srstNHigh =>
    refine .of_next h ?_
    split
    · exact (quiet_power s _).effects
    · exact .refl
  | portReady level => exact .of_next h (quiet_power s _).effects
  | hostAccessError a => exact .of_next h (hostAccess_effects s a)
  | registerWrite o v => exact .of_next h (hostAccess_effects s _)

/-- Every step reaches its state by effects: on an empty queue one TBCLK period passes, and else the front command runs. -/
theorem step_effects {s t : State} (h : step s = .next t) : Effects s t := by
  unfold step at h
  split at h
  · exact .of_next h (quiet_tbclk s).effects
  · rename_i rest _
    have htake : s.QuietTo { s with pending := rest } := ⟨rfl, rfl, rfl, rfl, fun h => { h with }⟩
    exact .head (.quiet htake) (exec_effects h)

/-- What every effect keeps, every step keeps. -/
theorem step_induction {P : State → Prop} (hP : ∀ s t, Effect s t → P s → P t) {s t : State} (hs : P s)
    (h : step s = .next t) : P t := by
  have hchain := step_effects h
  clear h
  induction hchain with
  | refl => exact hs
  | tail _ he ih => exact hP _ _ he ih

end Sys2Proof.Machine
end

section
/-! The miss parking block under effects: every effect is a chain of steps of the block (`Effect.miss`), and each step of the
block keeps its counts in range and its members among the keys parked. -/

namespace Sys2Proof.Machine

/-! ### What an item and a request do to the miss parking block -/

/-- What the step of an item does, by what the item is (R10, R11, R31). -/
theorem decideItem_cases (s : State) (n : AgentId) (it : Item) :
    (it.conflict = true ∧ ∃ q a, s.decideItem n it = s.addFault .tagInUse n s.bindings[n] it.tag q a) ∨
    (it.conflict = false ∧ ∃ code, s.decideItem n it = (s.signalMailbox n code).respond n it.tag (.done [])) ∨
    (it.conflict = false ∧ it.free = false ∧ ∃ r : Request, r.agent = n ∧ r.tag = it.tag ∧
      s.decideItem n it = s.decideRequest r) := by
  unfold State.decideItem
  cases hc : it.conflict with
  | true =>
    refine .inl ⟨rfl, ?_⟩
    rw [if_pos rfl, State.tagConflict]
    split <;> exact ⟨_, _, rfl⟩
  | false =>
    rw [if_neg Bool.false_ne_true]
    cases hb : it.body with
    | signal code => exact .inr (.inl ⟨rfl, code, rfl⟩)
    | access a => exact .inr (.inr ⟨rfl, by simp [Item.free, hc, hb], it.request n a, rfl, rfl, rfl⟩)

/-- One step of the miss parking block. -/
inductive MissStep (m : MissBlock) : MissBlock → Prop
  | clear : MissStep m { parked := [], members := [], queue := [], latch := none, lost := 0 }
  | park (r : MissItem) : MissStep m (m.park r).1
  | report (r : Report) (room : m.queue.length < 8) (notParked : r.notParked = true) : MissStep m (m.enter r)
  | lose : MissStep m { m with lost := satInc 255 m.lost }
  | age : MissStep m { m with parked := m.parked.map Parked.older }
  | remove (p : Parked → Bool) : MissStep m (m.remove p)
  | pop : MissStep m m.pop
  | reportMember (p : Parked) (room : m.queue.length < 8) (unreported : m.UnreportedAt p) : MissStep m (m.reportMember p)

/-- A chain of steps of the miss parking block leads from one to the other. -/
abbrev MissSteps : MissBlock → MissBlock → Prop := Relation.ReflTransGen MissStep

theorem MissSteps.of_eq {m m' : MissBlock} (h : m' = m) : MissSteps m m' := h ▸ .refl

theorem serve_steps (n : Nat) (m : MissBlock) : MissSteps m (m.serve n).1 := by
  induction n generalizing m with
  | zero => exact .refl
  | succ n ih =>
    unfold MissBlock.serve
    split
    · rename_i hroom
      cases hh : m.backlogHead with
      | none => exact .refl
      | some p => exact .head (.reportMember p hroom (backlogHead_unreported m p hh)) (ih _)
    · exact .refl

theorem foldl_finishParked_miss (k : FaultKind) (l : List Parked) (s : State) :
    (l.foldl (fun t p => t.finishParked k p) s).miss = s.miss :=
  foldl_keeps _ State.miss (fun _ _ => State.finishParked_miss ..) _ _

theorem reportNotParked_steps (s : State) {r : Report} (h : r.notParked = true) :
    MissSteps s.miss (s.reportNotParked r).miss := by
  unfold State.reportNotParked
  split
  · rename_i hroom
    rw [Bool.and_eq_true, decide_eq_true_eq] at hroom
    exact .single (.report r hroom.1 h)
  · exact .single .lose

theorem State.Decided.miss {s t : State} {r : Request} (h : s.Decided r t) : MissSteps s.miss t.miss := by
  cases h with
  | fault => exact .of_eq (by simp)
  | missed ctx report hr => exact State.faultRequest_miss s r .miss (some ctx) ▸ reportNotParked_steps _ hr
  | parked => exact .single (.park _)
  | issued _ _ _ _ _ _ same => exact .of_eq (by rw [same]; simp)
  | condFail => exact .of_eq (by simp)

theorem takeIn_miss (s : State) (n : AgentId) (m : Message) : (s.takeIn n m).miss = s.miss := by
  unfold State.takeIn
  split
  · simp
  · rfl

theorem assertPortReset_miss (s : State) (n : AgentId) : (s.assertPortReset n).miss = s.miss := by
  unfold State.assertPortReset; split <;> rfl

theorem sendDownstream_miss (s : State) : s.sendDownstream.miss = s.miss := by
  unfold State.sendDownstream; split <;> rfl

theorem downResponse_miss (s : State) (g : GatewayTag) (st : MemStatus) (d : List Byte) :
    (s.downResponse g st d).miss = s.miss := by
  rcases downResponse_cases s g st d with ht | ⟨r, -, -, ⟨-, ht⟩ | ⟨-, ht⟩⟩ <;> rw [ht]
  · rfl
  · unfold State.relay; cases st <;> simp

theorem ageParked_miss (s : State) :
    s.ageParked.miss = ({ s.miss with parked := s.miss.parked.map Parked.older } : MissBlock).remove
      (·.expired s.config.missTimeout) := foldl_finishParked_miss ..

theorem abortKey_miss (s : State) (k : Key) : (s.abortKey k).miss = s.miss.remove (·.under k) :=
  foldl_finishParked_miss ..

/-- Every effect is a chain of steps of the miss parking block. -/
theorem Effect.miss {s t : State} (h : Effect s t) : MissSteps s.miss t.miss := by
  cases h with
  | quiet h => exact .of_eq h.miss
  | powerOn => exact .single .clear
  | admission n m => exact .of_eq (takeIn_miss s n m)
  | resetLow n => exact .of_eq (assertPortReset_miss s n)
  | resetHigh n => exact .refl
  | portReset n => exact .single (.remove _)
  | newItem n it rest h =>
    rcases decideItem_cases (s.afterTaking n rest) n it with
      ⟨-, q, a, ht⟩ | ⟨-, code, ht⟩ | ⟨-, -, r, -, -, ht⟩ <;> rw [ht]
    · exact .of_eq (State.addFault_miss ..)
    · exact .of_eq (by simp; rfl)
    · exact (decideRequest_decided (s.afterTaking n rest) r).miss
  | replay r rest => exact (decideRequest_decided (s.replayTaken rest) r.request).miss
  | ageParked => rw [ageParked_miss]; exact .tail (.single .age) (.remove _)
  | softReset => exact .single .clear
  | releaseKey k => exact .single (.remove _)
  | abortKey k => rw [abortKey_miss]; exact .single (.remove _)
  | popReport => exact .single .pop
  | serveBacklog => exact serve_steps ..
  | send => exact .of_eq (sendDownstream_miss s)
  | receive g st d => exact .of_eq (downResponse_miss s g st d)

/-- What every step of the miss parking block keeps, every effect keeps. -/
theorem Effect.miss_induction {P : MissBlock → Prop} (hP : ∀ m m', MissStep m m' → P m → P m') {s t : State}
    (h : Effect s t) (hs : P s.miss) : P t.miss := by
  have hchain := h.miss
  clear h
  generalize t.miss = m at hchain ⊢
  induction hchain with
  | refl => exact hs
  | tail _ hstep ih => exact hP _ _ hstep ih

/-! ### The counts of the block -/

/-- The report queue, the reports-lost count and the ages are in range (R77, R83, R90). -/
def MissBlock.InRange (m : MissBlock) : Prop := m.queue.length ≤ 8 ∧ m.lost ≤ 255 ∧ ∀ p ∈ m.parked, p.age ≤ 15

/-- A report that moves into the latch leaves the parked list and the lost count, and shortens the queue. -/
theorem present_range (m : MissBlock) :
    m.present.queue.length ≤ m.queue.length ∧ m.present.lost = m.lost ∧ m.present.parked = m.parked := by
  unfold MissBlock.present
  split
  · rename_i r rest _ hq
    have hlen : rest.length ≤ m.queue.length := by rw [hq, List.length_cons]; omega
    dsimp only
    split
    · exact ⟨hlen, rfl, rfl⟩
    · exact ⟨hlen, rfl, rfl⟩
  · exact ⟨le_rfl, rfl, rfl⟩

theorem MissBlock.InRange.present {m : MissBlock} (h : m.InRange) : m.present.InRange := by
  obtain ⟨hq, hl, hp⟩ := present_range m
  exact ⟨hq.trans h.1, hl ▸ h.2.1, hp ▸ h.2.2⟩

theorem MissBlock.InRange.enter {m : MissBlock} (h : m.InRange) (hroom : m.queue.length < 8) (r : Report) :
    (m.enter r).InRange :=
  MissBlock.InRange.present ⟨by rw [List.length_append]; exact hroom, h.2⟩

theorem mem_insertByOrder {p q : Parked} {l : List Parked} : q ∈ insertByOrder p l ↔ q = p ∨ q ∈ l := by
  obtain ⟨b, a, rfl, -, -, h⟩ := insertByOrder_split p l
  simp only [h, List.mem_append, List.mem_cons]; tauto

theorem MissBlock.InRange.addMember {m : MissBlock} (h : m.InRange) (k : Key) (st : ReportState) :
    (m.addMember k st).InRange := h

theorem MissBlock.InRange.park {m : MissBlock} (h : m.InRange) (r : MissItem) : (m.park r).1.InRange := by
  have hplaced : ({ m with parked := insertByOrder ⟨r, 0⟩ m.parked } : MissBlock).InRange := by
    refine ⟨h.1, h.2.1, fun p hp => ?_⟩
    rcases mem_insertByOrder.1 hp with rfl | hp
    · exact Nat.zero_le _
    · exact h.2.2 p hp
  unfold MissBlock.park
  dsimp only
  split_ifs with _ hroom
  · exact hplaced
  · exact (hplaced.addMember r.key .queued).enter hroom _
  · exact hplaced

theorem MissStep.inRange {m m' : MissBlock} (h : MissStep m m') (hm : m.InRange) : m'.InRange := by
  obtain ⟨hqueue, hlost, hage⟩ := hm
  cases h with
  | clear => exact ⟨by simp, by simp, by simp⟩
  | park r => exact MissBlock.InRange.park ⟨hqueue, hlost, hage⟩ r
  | report r hroom => exact MissBlock.InRange.enter ⟨hqueue, hlost, hage⟩ hroom r
  | lose => exact ⟨hqueue, satInc_le hlost, hage⟩
  | age =>
    refine ⟨hqueue, hlost, fun p hp => ?_⟩
    obtain ⟨q, hq, rfl⟩ := List.mem_map.1 hp
    exact satInc_le (hage q hq)
  | remove p =>
    exact ⟨(List.length_filter_le _ _).trans hqueue, hlost, fun q hq => hage q (List.mem_of_mem_filter hq)⟩
  | pop =>
    unfold MissBlock.pop
    split
    · exact ⟨hqueue, hlost, hage⟩
    · refine MissBlock.InRange.present ?_
      split <;> exact ⟨hqueue, hlost, hage⟩
  | reportMember p hroom => exact MissBlock.InRange.enter (m := m.setMember _ _) ⟨hqueue, hlost, hage⟩ hroom _

/-! ### Members and records -/

/-- No key has two members, and the key of every member is that of a parked record (R80). -/
def MissBlock.MembersParked (m : MissBlock) : Prop :=
  (m.members.map (·.key)).Nodup ∧ ∀ x ∈ m.members.map (·.key), ∃ p ∈ m.parked, p.item.key = x

/-- Keys and parked keys fix it. -/
theorem MissBlock.MembersParked.congr {m m' : MissBlock} (h : m.MembersParked)
    (hk : m'.members.map (·.key) = m.members.map (·.key))
    (hp : ∀ p ∈ m.parked, ∃ q ∈ m'.parked, q.item.key = p.item.key) : m'.MembersParked := by
  unfold MissBlock.MembersParked
  rw [hk]
  refine ⟨h.1, fun x hx => ?_⟩
  obtain ⟨p, hpm, rfl⟩ := h.2 x hx
  exact hp p hpm

/-- There are no more members than parked records. -/
theorem MissBlock.MembersParked.length_le {m : MissBlock} (h : m.MembersParked) :
    m.members.length ≤ m.parked.length := by
  have hsub : m.members.map (·.key) ⊆ m.parked.map (·.item.key) := fun x hx => by
    obtain ⟨p, hp, hk⟩ := h.2 x hx
    exact List.mem_map.2 ⟨p, hp, hk⟩
  simpa using (h.1.subperm hsub).length_le

@[simp] theorem setMember_keys (m : MissBlock) (k : Key) (st : ReportState) :
    (m.setMember k st).members.map (·.key) = m.members.map (·.key) := by
  simp only [MissBlock.setMember, List.map_map]
  refine List.map_congr_left fun x _ => ?_
  simp only [Function.comp]; split <;> rfl

@[simp] theorem present_keys (m : MissBlock) : m.present.members.map (·.key) = m.members.map (·.key) := by
  unfold MissBlock.present
  split
  · dsimp only
    split
    · rfl
    · exact setMember_keys ..
  · rfl

@[simp] theorem enter_keys (m : MissBlock) (r : Report) : (m.enter r).members.map (·.key) = m.members.map (·.key) :=
  present_keys _

@[simp] theorem enter_parked (m : MissBlock) (r : Report) : (m.enter r).parked = m.parked := (present_range _).2.2

theorem park_parked (m : MissBlock) (r : MissItem) : (m.park r).1.parked = insertByOrder ⟨r, 0⟩ m.parked := by
  unfold MissBlock.park
  dsimp only
  split_ifs
  · rfl
  · exact enter_parked ..
  · rfl

theorem pop_parked (m : MissBlock) : m.pop.parked = m.parked := by
  unfold MissBlock.pop
  split
  · rfl
  · rw [(present_range _).2.2]; split <;> rfl

theorem serve_parked (n : Nat) (m : MissBlock) : (m.serve n).1.parked = m.parked := by
  induction n generalizing m with
  | zero => rfl
  | succ n ih =>
    unfold MissBlock.serve
    split
    · cases m.backlogHead with
      | none => rfl
      | some p => exact (ih _).trans (enter_parked ..)
    · rfl

theorem MissBlock.MembersParked.park {m : MissBlock} (h : m.MembersParked) (r : MissItem) :
    (m.park r).1.MembersParked := by
  have hold : ∀ p ∈ m.parked, ∃ q ∈ insertByOrder ⟨r, 0⟩ m.parked, q.item.key = p.item.key :=
    fun p hp => ⟨p, mem_insertByOrder.2 (.inr hp), rfl⟩
  have hadd (st : ReportState) (hnew : ¬ m.hasMember r.key = true) :
      (MissBlock.addMember { m with parked := insertByOrder ⟨r, 0⟩ m.parked } r.key st).MembersParked := by
    have hfresh : r.key ∉ m.members.map (·.key) := by
      simpa [hasMember_iff] using hnew
    refine ⟨?_, fun x hx => ?_⟩
    · simp only [MissBlock.addMember, List.map_append, List.map_cons, List.map_nil]
      exact List.nodup_append.2 ⟨h.1, List.nodup_singleton _, fun a ha b hb => by
        rw [List.mem_singleton.1 hb]; exact fun e => hfresh (e ▸ ha)⟩
    · simp only [MissBlock.addMember, List.map_append, List.mem_append, List.map_cons, List.map_nil,
        List.mem_singleton] at hx
      rcases hx with hx | rfl
      · obtain ⟨p, hp, rfl⟩ := h.2 x hx
        exact hold p hp
      · exact ⟨⟨r, 0⟩, mem_insertByOrder.2 (.inl rfl), rfl⟩
  unfold MissBlock.park
  dsimp only
  split_ifs with hmem hroom
  · exact h.congr rfl hold
  · exact (hadd .queued hmem).congr (enter_keys ..) (by rw [enter_parked]; exact fun p hp => ⟨p, hp, rfl⟩)
  · exact hadd .unreported hmem

theorem MissStep.membersParked {m m' : MissBlock} (h : MissStep m m') (hm : m.MembersParked) : m'.MembersParked := by
  cases h with
  | clear => exact ⟨List.nodup_nil, by simp⟩
  | park r => exact hm.park r
  | report r => exact hm.congr (enter_keys ..) fun p hp => ⟨p, by rwa [enter_parked], rfl⟩
  | lose => exact hm.congr rfl fun p hp => ⟨p, hp, rfl⟩
  | age => exact hm.congr rfl fun p hp => ⟨p.older, List.mem_map_of_mem hp, rfl⟩
  | remove p =>
    obtain ⟨hparked, hmembers, -⟩ := MissBlock.remove_removedFrom m p
    refine ⟨?_, fun x hx => ?_⟩
    · rw [hmembers]
      exact hm.1.sublist (List.filter_sublist.map _)
    · rw [hmembers] at hx
      obtain ⟨y, hy, rfl⟩ := List.mem_map.1 hx
      simpa using (List.mem_filter.1 hy).2
  | pop =>
    unfold MissBlock.pop
    split
    · exact hm
    · refine hm.congr ?_ fun p hp => ⟨p, ?_, rfl⟩
      · rw [present_keys]; split
        · rfl
        · exact setMember_keys ..
      · rw [(present_range _).2.2]; split <;> exact hp
  | reportMember p =>
    refine hm.congr ((enter_keys ..).trans (setMember_keys ..)) fun q hq => ⟨q, ?_, rfl⟩
    rw [MissBlock.reportMember, enter_parked]; exact hq

end Sys2Proof.Machine
end

section
/-! Which tags the requests in the gateway occupy, and which the tag sets name, while a request moves: the tags of the requests
a step holds in hand are listed beside those that stand somewhere (`TagsHeld`). -/

namespace Sys2Proof.Machine

/-! ### Outstanding records -/

/-- The outstanding records, by gateway tag (R107). -/
def SysPort.records (y : SysPort) : List OutRecord := (List.finRange 16).filterMap fun g => y.table[g]

/-- The elements held by a vector with index `g` written: the one written, and those at the other indices. -/
theorem filterMap_set_perm {α : Type} {n : Nat} (v : Vector (Option α) n) (g : Fin n) (x : Option α) :
    ((List.finRange n).filterMap fun h => (v.set g x)[h]).Perm
      (x.toList ++ ((List.finRange n).erase g).filterMap fun h => v[h]) := by
  refine ((List.perm_cons_erase (List.mem_finRange g)).filterMap _).trans ?_
  have hothers : ((List.finRange n).erase g).filterMap (fun h => (v.set g x)[h]) =
      ((List.finRange n).erase g).filterMap fun h => v[h] := by
    refine List.filterMap_congr fun h hh => ?_
    rw [set_getElem_fin, if_neg ((List.nodup_finRange n).mem_erase_iff.1 hh).1]
  have hhead : (v.set g x)[g] = x := by rw [set_getElem_fin, if_pos rfl]
  rw [List.filterMap_cons, hhead, hothers]
  cases x <;> rfl

/-- A record is written at a free gateway tag. -/
theorem records_set_some (y : SysPort) {g : GatewayTag} (h : y.table[g] = none) (r : OutRecord) (q : List DownRequest) :
    ({ y with table := y.table.set g (some r), sendq := q } : SysPort).records.Perm (r :: y.records) := by
  have hold := filterMap_set_perm y.table g y.table[g]
  rw [set_self, h] at hold
  exact (filterMap_set_perm y.table g (some r)).trans (hold.symm.cons r)

/-- A gateway tag is freed. -/
theorem records_set_none (y : SysPort) {g : GatewayTag} {r : OutRecord} (h : y.table[g] = some r) :
    y.records.Perm (r :: ({ y with table := y.table.set g none } : SysPort).records) := by
  have hold := filterMap_set_perm y.table g y.table[g]
  rw [set_self, h] at hold
  exact hold.trans ((filterMap_set_perm y.table g none).symm.cons r)

theorem records_eq_nil {y : SysPort} (h : ∀ g : GatewayTag, y.table[g] = none) : y.records = [] :=
  List.filterMap_eq_nil_iff.2 fun g _ => h g

/-- The records after the orphaning of agent `n`'s (R16). -/
theorem records_orphan (y : SysPort) (n : AgentId) :
    (y.orphan n).records = y.records.map fun r => if r.agent = n then { r with orphaned := true } else r := by
  unfold SysPort.records
  rw [List.map_filterMap]
  exact List.filterMap_congr fun g _ => orphan_getElem y n g

/-- How many elements of a vector satisfy `p`, where an absent one does not. -/
theorem countIdx_option {α : Type} {n : Nat} (v : Vector (Option α) n) (p : Option α → Bool) (q : α → Bool)
    (hnone : p none = false) (hsome : ∀ a, p (some a) = q a) :
    countIdx p v = ((List.finRange n).filterMap fun g => v[g]).countP q := by
  rw [List.countP_filterMap, countIdx]
  refine List.countP_congr fun g _ => ?_
  cases v[g] <;> simp [hnone, hsome]

theorem countOf_eq (y : SysPort) (n : AgentId) : y.countOf n = y.records.countP fun r => decide (r.agent = n) :=
  countIdx_option _ _ _ rfl fun _ => rfl

theorem orphans_eq (y : SysPort) (n : AgentId) :
    y.orphans n = y.records.countP fun r => decide (r.agent = n) && r.orphaned :=
  countIdx_option _ _ _ rfl fun _ => rfl

/-! ### The tags of the requests of an agent -/

/-- The tags of the items of a waiting line, conflict items aside (R5). -/
def lineTags (l : List Item) : List AgentTag := (l.filter fun it => !it.conflict).map (·.tag)

/-- The tags of agent `n`'s requests held off its line (R5). -/
def itemTags (n : AgentId) (l : List MissItem) : List AgentTag := (l.filter fun r => decide (r.agent = n)).map (·.tag)

/-- The tags of agent `n`'s records that are not orphaned (R5). -/
def downTags (n : AgentId) (l : List OutRecord) : List AgentTag :=
  l.filterMap fun r => if r.agent = n ∧ r.orphaned = false then some r.tag else none

/-- The tags of agent `n` among the requests that a step holds in hand. -/
def heldTags (n : AgentId) (l : List (AgentId × AgentTag)) : List AgentTag :=
  (l.filter fun p => decide (p.1 = n)).map (·.2)

/-- The occupied tags by the place of their requests. -/
theorem occupied_eq (s : State) (n : AgentId) :
    s.occupied n = lineTags s.ports[n].line ++ itemTags n s.dp.replay ++ itemTags n (s.miss.parked.map (·.item)) ++
      downTags n s.sys.records := by
  unfold State.occupied itemTags
  rw [List.filter_map, List.map_map]; rfl

theorem lineTags_cons (it : Item) (l : List Item) :
    lineTags (it :: l) = (if it.conflict then [] else [it.tag]) ++ lineTags l := by
  cases h : it.conflict <;> simp [lineTags, h]

theorem lineTags_concat (l : List Item) (it : Item) :
    lineTags (l ++ [it]) = lineTags l ++ if it.conflict then [] else [it.tag] := by
  cases h : it.conflict <;> simp [lineTags, h]

theorem itemTags_append (n : AgentId) (l l' : List MissItem) : itemTags n (l ++ l') = itemTags n l ++ itemTags n l' := by
  simp [itemTags]

theorem itemTags_cons (n : AgentId) (r : MissItem) (l : List MissItem) :
    itemTags n (r :: l) = heldTags n [(r.agent, r.tag)] ++ itemTags n l := by
  by_cases h : r.agent = n <;> simp [itemTags, heldTags, h]

theorem downTags_cons (n : AgentId) {r : OutRecord} (h : r.orphaned = false) (l : List OutRecord) :
    downTags n (r :: l) = heldTags n [(r.agent, r.tag)] ++ downTags n l := by
  by_cases hn : r.agent = n <;> simp [downTags, heldTags, h, hn]

theorem downTags_cons_orphaned (n : AgentId) {r : OutRecord} (h : r.orphaned = true) (l : List OutRecord) :
    downTags n (r :: l) = downTags n l := by simp [downTags, h]

theorem heldTags_cons (n : AgentId) (p : AgentId × AgentTag) (l : List (AgentId × AgentTag)) :
    heldTags n (p :: l) = heldTags n [p] ++ heldTags n l := by
  by_cases h : p.1 = n <;> simp [heldTags, h]

theorem heldTags_nil (n : AgentId) : heldTags n [] = [] := rfl

theorem heldTags_self (n : AgentId) (t : AgentTag) : heldTags n [(n, t)] = [t] := by simp [heldTags]

theorem heldTags_of_ne {n m : AgentId} (h : m ≠ n) (t : AgentTag) : heldTags m [(n, t)] = [] := by
  simp [heldTags, h.symm]

theorem heldTags_map_item (n : AgentId) (l : List Parked) :
    heldTags n (l.map fun p => (p.item.agent, p.item.tag)) = itemTags n (l.map (·.item)) := by
  unfold heldTags itemTags
  rw [List.filter_map, List.filter_map, List.map_map, List.map_map]; rfl

/-- Without agent `n`'s requests, the tags of the others are left. -/
theorem itemTags_filter_ne (n m : AgentId) (l : List MissItem) :
    itemTags m (l.filter fun r => decide (r.agent ≠ n)) = if m = n then [] else itemTags m l := by
  induction l with
  | nil => split <;> rfl
  | cons r l ih =>
    rw [itemTags_cons, List.filter_cons]
    by_cases hr : r.agent = n
    · rw [if_neg (by simp [hr]), ih]
      split
      · rfl
      · rename_i hm; rw [hr, heldTags_of_ne hm]; rfl
    · rw [if_pos (by simp [hr]), itemTags_cons, ih]
      split
      · rename_i hm; rw [heldTags_of_ne (by rw [hm]; exact fun e => hr e.symm)]; rfl
      · rfl

/-- With agent `n`'s records orphaned, the tags of the others are left (R16). -/
theorem downTags_orphan (n m : AgentId) (l : List OutRecord) :
    downTags m (l.map fun r => if r.agent = n then { r with orphaned := true } else r) =
      if m = n then [] else downTags m l := by
  unfold downTags
  rw [List.filterMap_map]
  split
  · rename_i hm
    refine List.filterMap_eq_nil_iff.2 fun r _ => ?_
    by_cases hr : r.agent = n <;> simp [hr, hm]
  · rename_i hm
    refine List.filterMap_congr fun r _ => ?_
    by_cases hr : r.agent = n
    · have hnm : ¬ n = m := fun e => hm e.symm
      simp [hr, hnm]
    · simp [hr]

theorem itemTags_perm {n : AgentId} {l l' : List MissItem} (h : l.Perm l') : (itemTags n l).Perm (itemTags n l') :=
  (h.filter _).map _

theorem downTags_perm {n : AgentId} {l l' : List OutRecord} (h : l.Perm l') : (downTags n l).Perm (downTags n l') :=
  h.filterMap _

/-! ### A port names a list of tags -/

/-- A port's tag set is exactly the tags of `l`, none of which occurs twice, and `l` is empty while the port flushes. -/
def Port.Names (p : Port) (l : List AgentTag) : Prop :=
  l.Nodup ∧ (∀ t, p.uses t = true ↔ t ∈ l) ∧ (0 < p.flush → l = [])

theorem Port.Names.perm {p : Port} {l l' : List AgentTag} (h : p.Names l) (hl : l'.Perm l) : p.Names l' := by
  obtain ⟨hnodup, huses, hflush⟩ := h
  refine ⟨hl.nodup_iff.2 hnodup, fun t => (huses t).trans hl.mem_iff.symm, fun hf => ?_⟩
  rw [hflush hf] at hl
  exact hl.eq_nil

theorem Port.Names.congr {p q : Port} {l : List AgentTag} (h : p.Names l) (ht : q.tags = p.tags)
    (hf : 0 < q.flush → 0 < p.flush) : q.Names l := by
  obtain ⟨hnodup, huses, hflush⟩ := h
  exact ⟨hnodup, fun t => by rw [Port.uses, ht]; exact huses t, fun hq => hflush (hf hq)⟩

theorem Port.Names.release {p : Port} {t : AgentTag} {l : List AgentTag} (h : p.Names (t :: l)) :
    (p.release t).Names l := by
  obtain ⟨hnodup, huses, hflush⟩ := h
  rw [List.nodup_cons] at hnodup
  refine ⟨hnodup.2, fun x => ?_, fun hf => absurd (hflush hf) (List.cons_ne_nil _ _)⟩
  rw [Port.uses_release, Bool.and_eq_true, huses x, List.mem_cons]
  by_cases hx : x = t
  · subst hx; simp [hnodup.1]
  · simp [hx]

theorem Port.Names.occupy {p : Port} {t : AgentTag} {l : List AgentTag} (h : p.Names l) (hfree : ¬ p.uses t = true)
    (hflush : p.flush = 0) : (p.occupy t).Names (t :: l) := by
  obtain ⟨hnodup, huses, -⟩ := h
  refine ⟨List.nodup_cons.2 ⟨fun hm => hfree ((huses t).2 hm), hnodup⟩, fun x => ?_, fun hf => ?_⟩
  · rw [Port.uses_occupy, Bool.or_eq_true, huses x, decide_eq_true_eq, List.mem_cons, or_comm]
  · rw [Port.occupy_flush, hflush] at hf; omega

theorem Port.names_nil {p : Port} (h : p.tags = 0) : p.Names [] :=
  ⟨List.nodup_nil, fun t => by simp [Port.uses, h], fun _ => rfl⟩

/-! ### The tags of all ports -/

/-- Each port names the tags of its requests in the gateway and of those in `held`, which the step has in hand. -/
def TagsHeld (s : State) (held : List (AgentId × AgentTag)) : Prop :=
  ∀ n : AgentId, s.ports[n].Names (heldTags n held ++ s.occupied n)

theorem tagsHeld_nil_iff (s : State) : TagsHeld s [] ↔ s.TagsSound := Iff.rfl

/-- Requests move: the tag sets stay, no port begins to flush, and each agent's tags are the same. -/
theorem TagsHeld.move {s t : State} {held held' : List (AgentId × AgentTag)} (h : TagsHeld s held)
    (ht : ∀ n : AgentId, t.ports[n].tags = s.ports[n].tags)
    (hf : ∀ n : AgentId, 0 < t.ports[n].flush → 0 < s.ports[n].flush)
    (hl : ∀ n : AgentId, (heldTags n held' ++ t.occupied n).Perm (heldTags n held ++ s.occupied n)) : TagsHeld t held' :=
  fun n => ((h n).perm (hl n)).congr (ht n) (hf n)

/-- The requests of the gateway stand where they stood. -/
structure State.SameRequests (s t : State) : Prop where
  line : ∀ n : AgentId, t.ports[n].line = s.ports[n].line
  replay : t.dp.replay = s.dp.replay
  parked : t.miss.parked = s.miss.parked
  table : t.sys.table = s.sys.table

theorem State.SameRequests.records {s t : State} (h : s.SameRequests t) : t.sys.records = s.sys.records := by
  unfold SysPort.records; rw [h.table]

theorem State.SameRequests.occupied {s t : State} (h : s.SameRequests t) (n : AgentId) : t.occupied n = s.occupied n := by
  rw [occupied_eq, occupied_eq, h.line, h.replay, h.parked, h.records]

/-- Requests and ports are left. -/
theorem TagsHeld.same {s t : State} {held : List (AgentId × AgentTag)} (h : TagsHeld s held) (hr : s.SameRequests t)
    (ht : ∀ n : AgentId, t.ports[n].tags = s.ports[n].tags) (hf : ∀ n : AgentId, t.ports[n].flush = s.ports[n].flush) :
    TagsHeld t held :=
  h.move ht (fun n hn => hf n ▸ hn) fun n => by rw [hr.occupied]

theorem set_release_line (v : Vector Port 8) (n m : AgentId) (t : AgentTag) :
    (v.set n (v[n].release t))[m].line = v[m].line := by
  rw [set_getElem_fin]; split
  · rename_i h; rw [h]; rfl
  · rfl

theorem set_release_flush (v : Vector Port 8) (n m : AgentId) (t : AgentTag) :
    (v.set n (v[n].release t))[m].flush = v[m].flush := by
  rw [set_getElem_fin]; split
  · rename_i h; rw [h]; rfl
  · rfl

/-- A request in hand finishes: its tag leaves the set (R12). -/
theorem TagsHeld.finish {s t : State} {n : AgentId} {x : AgentTag} {held : List (AgentId × AgentTag)}
    (h : TagsHeld s ((n, x) :: held)) (hp : t.ports = s.ports.set n (s.ports[n].release x))
    (hreplay : t.dp.replay = s.dp.replay) (hparked : t.miss.parked = s.miss.parked) (hsys : t.sys.table = s.sys.table) :
    TagsHeld t held := by
  have hsame : s.SameRequests t := ⟨fun m => by rw [hp, set_release_line], hreplay, hparked, hsys⟩
  intro m
  have hm := h m
  rw [heldTags_cons, List.append_assoc] at hm
  rw [hsame.occupied, hp, set_getElem_fin]
  split
  · rename_i heq
    subst heq
    rw [heldTags_self] at hm
    exact hm.release
  · rename_i hne
    rw [heldTags_of_ne hne] at hm
    exact hm

theorem TagsHeld.foldl_finishParked {k : FaultKind} {l : List Parked} {s : State}
    (h : TagsHeld s (l.map fun p => (p.item.agent, p.item.tag))) :
    TagsHeld (l.foldl (fun t p => t.finishParked k p) s) [] := by
  induction l generalizing s with
  | nil => exact h
  | cons p l ih =>
    exact ih (h.finish (State.finishParked_ports ..) (by simp) (by simp) (by simp))

/-- Nothing occupies a tag where every place is empty. -/
theorem occupied_eq_nil {s : State} {n : AgentId} (hline : s.ports[n].line = []) (hreplay : s.dp.replay = [])
    (hparked : s.miss.parked = []) (htable : ∀ g : GatewayTag, s.sys.table[g] = none) : s.occupied n = [] := by
  rw [occupied_eq, hline, hreplay, hparked, records_eq_nil htable]; rfl

/-- A gateway without a request. -/
theorem tagsHeld_of_empty {s : State} (htags : ∀ n : AgentId, s.ports[n].tags = 0)
    (hline : ∀ n : AgentId, s.ports[n].line = []) (hreplay : s.dp.replay = [])
    (hparked : s.miss.parked = []) (htable : ∀ g : GatewayTag, s.sys.table[g] = none) : TagsHeld s [] := by
  intro n
  rw [occupied_eq_nil (hline n) hreplay hparked htable]
  exact Port.names_nil (htags n)

/-! ### Requests that move -/

/-- Parked records are taken in hand. -/
theorem TagsHeld.unpark {s : State} (h : TagsHeld s []) {m : MissBlock} {out : List Parked}
    (hperm : (out.map (·.item) ++ m.parked.map (·.item)).Perm (s.miss.parked.map (·.item))) :
    TagsHeld { s with miss := m } (out.map fun p => (p.item.agent, p.item.tag)) := by
  refine h.move (fun _ => rfl) (fun _ => id) fun n => ?_
  rw [heldTags_map_item, occupied_eq, occupied_eq]
  refine List.perm_iff_count.2 fun x => ?_
  have hcount := (itemTags_perm (n := n) hperm).count_eq x
  simp only [itemTags_append, List.count_append] at hcount ⊢
  simp only [heldTags_nil, List.count_nil]
  omega

/-- The records that satisfy `p` and those that do not are the records. -/
theorem filter_items_perm (p : Parked → Bool) (l : List Parked) :
    ((l.filter p).map (·.item) ++ (l.filter fun q => !p q).map (·.item)).Perm (l.map (·.item)) := by
  rw [← List.map_append]
  exact (List.filter_append_perm p l).map _

theorem TagsHeld.abortKey {s : State} (h : TagsHeld s []) (k : Key) : TagsHeld (s.abortKey k) [] :=
  (h.unpark (filter_items_perm (·.under k) s.miss.parked)).foldl_finishParked

theorem TagsHeld.ageParked {s : State} (h : TagsHeld s []) : TagsHeld s.ageParked [] := by
  refine (h.unpark ?_).foldl_finishParked
  refine (filter_items_perm (·.expired s.config.missTimeout) (s.miss.parked.map Parked.older)).trans ?_
  rw [List.map_map]; rfl

/-- A released key's records become replay items (R87). -/
theorem TagsHeld.releaseKey {s : State} (h : TagsHeld s []) (k : Key) : TagsHeld (s.releaseKey k) [] := by
  refine h.move (fun _ => rfl) (fun _ => id) fun n => ?_
  rw [occupied_eq, occupied_eq]
  refine List.perm_iff_count.2 fun x => ?_
  have hcount := (itemTags_perm (n := n) (filter_items_perm (·.under k) s.miss.parked)).count_eq x
  have hreplay : (s.releaseKey k).dp.replay = s.dp.replay ++ (s.miss.parked.filter (·.under k)).map (·.item) := rfl
  have hparked : (s.releaseKey k).miss.parked = s.miss.parked.filter fun q => !q.under k := rfl
  rw [hreplay, hparked]
  simp only [itemTags_append, List.count_append] at hcount ⊢
  have hsys : (s.releaseKey k).sys = s.sys := rfl
  have hports : (s.releaseKey k).ports = s.ports := rfl
  rw [hsys, hports]
  omega

/-- A request in hand is parked (R81). -/
theorem TagsHeld.park {s : State} {r : MissItem} (h : TagsHeld s [(r.agent, r.tag)]) : TagsHeld (s.park r) [] := by
  refine h.move (fun _ => rfl) (fun _ => id) fun n => ?_
  rw [occupied_eq, occupied_eq]
  refine List.perm_iff_count.2 fun x => ?_
  obtain ⟨before, after, hsplit, -, -, hplaced⟩ := insertByOrder_split ⟨r, 0⟩ s.miss.parked
  have hparked : ((s.park r).miss.parked.map (·.item)).Perm (r :: s.miss.parked.map (·.item)) := by
    rw [State.park_miss, park_parked, hplaced, hsplit, List.map_append, List.map_append, List.map_cons]
    exact List.perm_middle
  have hcount := (itemTags_perm (n := n) hparked).count_eq x
  rw [itemTags_cons, List.count_append] at hcount
  simp only [List.count_append, State.park_ports, State.park_dp, State.park_sys, hcount]
  simp only [heldTags_nil, List.count_nil]
  omega

/-- A request in hand is issued: a record that is not orphaned is written at a free gateway tag (R107). -/
theorem TagsHeld.issue {s t : State} {r : OutRecord} {g : GatewayTag} {q : List DownRequest}
    (h : TagsHeld s [(r.agent, r.tag)]) (hfree : s.sys.table[g] = none) (hr : r.orphaned = false)
    (hports : t.ports = s.ports) (hreplay : t.dp.replay = s.dp.replay) (hparked : t.miss.parked = s.miss.parked)
    (hsys : t.sys = { s.sys with table := s.sys.table.set g (some r), sendq := q }) : TagsHeld t [] := by
  refine h.move (fun n => by rw [hports]) (fun n => by rw [hports]; exact id) fun n => ?_
  rw [occupied_eq, occupied_eq, hports, hreplay, hparked, hsys]
  refine List.perm_iff_count.2 fun x => ?_
  have hcount := (downTags_perm (n := n) (records_set_some s.sys hfree r q)).count_eq x
  rw [downTags_cons n hr, List.count_append] at hcount
  simp only [List.count_append, hcount]
  simp only [heldTags_nil, List.count_nil]
  omega

/-- A record that is not orphaned is taken in hand, and its gateway tag is freed (R110). -/
theorem TagsHeld.freeGateway {s : State} {g : GatewayTag} {r : OutRecord} (h : TagsHeld s []) (hg : s.sys.table[g] = some r)
    (hr : r.orphaned = false) : TagsHeld (s.freeGateway g) [(r.agent, r.tag)] := by
  refine h.move (fun _ => rfl) (fun _ => id) fun n => ?_
  rw [occupied_eq, occupied_eq]
  refine List.perm_iff_count.2 fun x => ?_
  have hcount := (downTags_perm (n := n) (records_set_none s.sys hg)).count_eq x
  rw [downTags_cons n hr, List.count_append] at hcount
  simp only [List.count_append, hcount, State.freeGateway_ports, State.freeGateway_dp, State.freeGateway_miss,
    State.freeGateway_sys]
  simp only [heldTags_nil, List.count_nil]
  omega

end Sys2Proof.Machine
end

section
/-! A tag is in use exactly while one request occupies it: every effect keeps this, with the request in hand between its line,
the replay queue or the parked list and the place where it goes next. -/

namespace Sys2Proof.Machine

/-! ### What a decision leaves -/

theorem reportNotParked_parked (s : State) (r : Report) : (s.reportNotParked r).miss.parked = s.miss.parked := by
  unfold State.reportNotParked
  split
  · exact enter_parked ..
  · rfl

theorem State.Decided.dp {s t : State} {r : Request} (h : s.Decided r t) : t.dp = s.dp := by
  cases h with
  | fault => simp
  | missed => simp
  | parked => simp
  | issued _ _ _ _ _ _ same => rw [same]; simp
  | condFail => simp

/-- A request in hand is decided: it finishes, is parked, or is issued with the credit that its step requires. -/
theorem TagsHeld.decided {s t : State} {r : Request} (h : TagsHeld s [(r.agent, r.tag)]) (hcredit : s.HasCredit)
    (hd : s.Decided r t) : TagsHeld t [] := by
  have hdp : t.dp.replay = s.dp.replay := by rw [hd.dp]
  cases hd with
  | fault => exact h.finish (State.faultRequest_ports ..) hdp (by simp) (by simp)
  | missed => exact h.finish (by simp) hdp (by simp [reportNotParked_parked]) (by simp)
  | parked => exact h.park
  | issued ctx bank addr hit f resv same =>
    obtain ⟨g, hg⟩ : ∃ g, s.freeTag = some g := by
      rw [← Option.isSome_iff_exists]; exact (creditFree_iff s).2 hcredit
    have hlow := (freeTag_eq_some s g).1 hg
    refine h.issue (r := r.outRecord ctx) hlow.1 rfl (by rw [same]; simp) hdp (by rw [same]; simp)
      (q := s.sys.sendq ++ [r.downRequest g bank addr]) ?_
    rw [same, State.issue_eq s r ctx bank addr g hlow]; simp
  | condFail => exact h.finish (by simp) hdp (by simp) (by simp)

/-! ### A request is taken -/

theorem afterTaking_line (s : State) (n m : AgentId) (rest : List Item) :
    (s.afterTaking n rest).ports[m].line = if m = n then rest else s.ports[m].line := by
  show (s.ports.set n _)[m].line = _
  rw [set_getElem_fin]; split <;> rfl

/-- The taking of a head leaves tag sets and flush counts. -/
theorem afterTaking_tags_flush (s : State) (n m : AgentId) (rest : List Item) :
    (s.afterTaking n rest).ports[m].tags = s.ports[m].tags ∧
      (s.afterTaking n rest).ports[m].flush = s.ports[m].flush := by
  show (s.ports.set n _)[m].tags = _ ∧ (s.ports.set n _)[m].flush = _
  rw [set_getElem_fin]; split
  · rename_i h; subst h; exact ⟨rfl, rfl⟩
  · exact ⟨rfl, rfl⟩

/-- The head of a line is taken in hand; a conflict item has no tag of its own (R5, R29). -/
theorem TagsHeld.afterTaking {s : State} (h : TagsHeld s []) {n : AgentId} {it : Item} {rest : List Item}
    (hline : s.ports[n].line = it :: rest) :
    TagsHeld (s.afterTaking n rest) (if it.conflict then [] else [(n, it.tag)]) := by
  refine h.move (fun m => (afterTaking_tags_flush s n m rest).1) (fun m hm => (afterTaking_tags_flush s n m rest).2 ▸ hm)
    fun m => List.Perm.of_eq ?_
  rw [occupied_eq, occupied_eq, afterTaking_line]
  show _ = lineTags s.ports[m].line ++ _ ++ _ ++ _
  by_cases hm : m = n
  · subst hm
    rw [if_pos rfl, hline, lineTags_cons]
    cases it.conflict <;> simp [heldTags] <;> rfl
  · rw [if_neg hm]
    split
    · rfl
    · rw [heldTags_of_ne hm]; rfl

/-- The head of the replay queue is taken in hand (R88). -/
theorem TagsHeld.replayTaken {s : State} (h : TagsHeld s []) {r : MissItem} {rest : List MissItem}
    (hr : s.dp.replay = r :: rest) : TagsHeld (s.replayTaken rest) [(r.agent, r.tag)] := by
  refine h.move (fun _ => rfl) (fun _ => id) fun n => ?_
  rw [occupied_eq, occupied_eq, hr]
  refine List.perm_iff_count.2 fun x => ?_
  rw [itemTags_cons]
  show List.count x (_ ++ (lineTags s.ports[n].line ++ itemTags n rest ++ itemTags n (s.miss.parked.map (·.item)) ++
    downTags n s.sys.records)) = _
  simp only [List.count_append]
  simp only [heldTags_nil, List.count_nil]
  omega

/-! ### The other effects -/

theorem TagsHeld.takeIn {s : State} (h : TagsHeld s []) (n : AgentId) (m : Message) : TagsHeld (s.takeIn n m) [] := by
  by_cases hadm : s.admits n = true
  case neg => rw [takeIn_of_not_admits m hadm]; exact h
  rw [takeIn_of_admits m hadm]
  have hflush := flush_of_opened ((admits_iff s n).1 hadm).1
  intro k
  have hk := h k
  rw [occupied_eq] at hk ⊢
  simp only [set_getElem_fin]
  by_cases hkn : k = n
  case neg => rw [if_neg hkn]; exact hk
  subst hkn
  rw [if_pos rfl]
  have hconflict : (s.itemOf k m).conflict = s.ports[k].uses m.tag := rfl
  have htag : (s.itemOf k m).tag = m.tag := rfl
  rw [lineTags_concat, hconflict, htag]
  by_cases hu : s.ports[k].uses m.tag = true
  · rw [Port.occupy_of_uses hu, if_pos hu, List.append_nil]
    exact hk.congr rfl id
  · rw [if_neg hu]
    refine ((hk.occupy hu hflush).perm (List.perm_iff_count.2 fun x => ?_)).congr rfl id
    simp only [List.count_append, List.count_cons, List.count_nil]
    omega

theorem TagsHeld.portResetStep {s : State} (h : TagsHeld s []) (n : AgentId) : TagsHeld (s.portResetStep n) [] := by
  intro m
  have hparked : (s.portResetStep n).miss.parked.map (·.item) =
      (s.miss.parked.map (·.item)).filter fun r => decide (r.agent ≠ n) := by
    rw [List.filter_map]
    refine congrArg _ (List.filter_congr fun p _ => ?_)
    by_cases hp : p.item.agent = n <;> simp [hp]
  rw [occupied_eq, portResetStep_replay, hparked, portResetStep_sys, records_orphan, itemTags_filter_ne,
    itemTags_filter_ne, downTags_orphan]
  by_cases hm : m = n
  · subst hm
    rw [portResetStep_port]
    simp only [if_true]
    exact Port.names_nil rfl
  · rw [portResetStep_port_of_ne s hm, if_neg hm, if_neg hm, if_neg hm, ← occupied_eq]
    exact h m

/-- An orphaned record leaves, and no tag changes (R112). -/
theorem TagsHeld.discard {s : State} (h : TagsHeld s []) {g : GatewayTag} {r : OutRecord} (hg : s.sys.table[g] = some r)
    (hr : r.orphaned = true) : TagsHeld (s.discard g r) [] := by
  refine h.move (fun n => by rw [discard_port]) (fun n hn => ?_) fun n => ?_
  · rw [discard_port] at hn
    dsimp only at hn
    split at hn <;> omega
  · rw [occupied_eq, occupied_eq, discard_port]
    refine List.perm_iff_count.2 fun x => ?_
    have hcount := (downTags_perm (n := n) (records_set_none s.sys hg)).count_eq x
    rw [downTags_cons_orphaned n hr] at hcount
    simp only [List.count_append, hcount]
    rfl

theorem TagsHeld.downResponse {s : State} (h : TagsHeld s []) (g : GatewayTag) (st : MemStatus) (d : List Byte) :
    TagsHeld (s.downResponse g st d) [] := by
  rcases downResponse_cases s g st d with ht | ⟨r, hg, -, ⟨hr, ht⟩ | ⟨hr, ht⟩⟩ <;> rw [ht]
  · exact h
  · exact h.discard hg hr
  · refine (h.freeGateway hg hr).finish (n := r.agent) (x := r.tag) ?_ ?_ ?_ ?_
    all_goals unfold State.relay; cases st <;> simp

/-! ### The ports after the pins and the resets -/

/-- A change of the pin's fields of a port leaves line, tags and flush count of every port. -/
theorem setPort_pins (s : State) (n m : AgentId) {f : Port → Port}
    (hf : ∀ p, (f p).line = p.line ∧ (f p).tags = p.tags ∧ (f p).flush = p.flush) :
    (s.setPort n f).ports[m].line = s.ports[m].line ∧ (s.setPort n f).ports[m].tags = s.ports[m].tags ∧
      (s.setPort n f).ports[m].flush = s.ports[m].flush := by
  rw [State.setPort_ports, set_getElem_fin]
  split
  · rename_i h; subst h; exact hf _
  · exact ⟨rfl, rfl, rfl⟩

theorem assertPortReset_port (s : State) (n m : AgentId) :
    (s.assertPortReset n).ports[m].line = s.ports[m].line ∧ (s.assertPortReset n).ports[m].tags = s.ports[m].tags ∧
      (s.assertPortReset n).ports[m].flush = s.ports[m].flush := by
  unfold State.assertPortReset
  split
  · exact ⟨rfl, rfl, rfl⟩
  · exact setPort_pins s n m fun _ => ⟨rfl, rfl, rfl⟩

theorem releasePortReset_port (s : State) (n m : AgentId) :
    (s.releasePortReset n).ports[m].line = s.ports[m].line ∧ (s.releasePortReset n).ports[m].tags = s.ports[m].tags ∧
      (s.releasePortReset n).ports[m].flush = s.ports[m].flush :=
  setPort_pins s n m fun _ => ⟨rfl, rfl, rfl⟩

theorem poweredOn_port (pins : Pins) (n : AgentId) :
    (State.poweredOn pins).ports[n] = { Port.initial with resetLow := !pins.agrstN.getLsbD n.val } := by
  simp [State.poweredOn]

theorem poweredOn_table (pins : Pins) (g : GatewayTag) : (State.poweredOn pins).sys.table[g] = none := by
  simp [State.poweredOn, State.reset]

theorem softReset_port (s : State) (n : AgentId) : s.softReset.ports[n] = s.ports[n].afterSoftReset :=
  mapIdx_fin ..

/-- Every effect keeps the tags sound. -/
theorem Effect.tagsHeld {s t : State} (he : Effect s t) (h : TagsHeld s []) : TagsHeld t [] := by
  cases he with
  | quiet hq =>
    exact h.same ⟨fun n => by rw [hq.ports], hq.replay, by rw [hq.miss], by rw [hq.sys]⟩ (fun n => by rw [hq.ports])
      fun n => by rw [hq.ports]
  | powerOn pins =>
    exact tagsHeld_of_empty (fun n => by rw [poweredOn_port]; rfl) (fun n => by rw [poweredOn_port]; rfl) rfl rfl
      (poweredOn_table pins)
  | admission n m => exact h.takeIn n m
  | resetLow n =>
    have hpin := assertPortReset_port s n
    refine h.same ⟨fun m => (hpin m).1, ?_, ?_, ?_⟩ (fun m => (hpin m).2.1) fun m => (hpin m).2.2
    all_goals unfold State.assertPortReset; split <;> rfl
  | resetHigh n =>
    have hpin := releasePortReset_port s n
    exact h.same ⟨fun m => (hpin m).1, rfl, rfl, rfl⟩ (fun m => (hpin m).2.1) fun m => (hpin m).2.2
  | portReset n => exact h.portResetStep n
  | newItem n it rest hserves =>
    have htaken := h.afterTaking hserves.2.2
    rcases decideItem_cases (s.afterTaking n rest) n it with
      ⟨hc, q, a, ht⟩ | ⟨hc, code, ht⟩ | ⟨hc, hfree, r, rfl, htag, ht⟩ <;> rw [ht] <;> rw [hc] at htaken
    · exact htaken.same ⟨by simp, by simp, by simp, by simp⟩ (by simp) (by simp)
    · exact htaken.finish (by simp) (by simp) (by simp) (by simp)
    · rw [← htag] at htaken
      exact htaken.decided (hserves.hasCredit hfree) (decideRequest_decided _ r)
  | replay r rest hready hr =>
    have hcredit : (s.replayTaken rest).HasCredit := hready.2.1
    exact (h.replayTaken hr).decided hcredit (decideRequest_decided (s.replayTaken rest) r.request)
  | ageParked => exact h.ageParked
  | softReset hfree =>
    exact tagsHeld_of_empty (fun n => by rw [softReset_port]; rfl) (fun n => by rw [softReset_port]; rfl) rfl rfl hfree
  | releaseKey k => exact h.releaseKey k
  | abortKey k => exact h.abortKey k
  | popReport => exact h.same ⟨fun _ => rfl, rfl, pop_parked _, rfl⟩ (fun _ => rfl) fun _ => rfl
  | serveBacklog => exact h.same ⟨fun _ => rfl, rfl, serve_parked .., rfl⟩ (fun _ => rfl) fun _ => rfl
  | send =>
    unfold State.sendDownstream
    split
    · exact h
    · exact h.same ⟨fun _ => rfl, rfl, rfl, rfl⟩ (fun _ => rfl) fun _ => rfl
  | receive g st d => exact h.downResponse g st d

/-- Settles O57: each effect of a step keeps the tags sound. -/
theorem tagsNameRequestsInGateway : Obligations.TagsNameRequestsInGateway := by
  intro s t hs h
  exact (tagsHeld_nil_iff t).1 (step_induction (fun _ _ => Effect.tagsHeld) ((tagsHeld_nil_iff s).2 hs) h)

end Sys2Proof.Machine
end

section
/-! The system port and the counts: every effect keeps a gateway tag of its own for each waiting request, the flush counts
right, and every count in its range. -/

namespace Sys2Proof.Machine

/-! ### The system port -/

/-- Flush counts, send queue and table fix it. -/
theorem downstreamSound_congr {s t : State} (h : s.DownstreamSound) (hf : ∀ n : AgentId, t.ports[n].flush = s.ports[n].flush)
    (hq : t.sys.sendq = s.sys.sendq) (ht : t.sys.table = s.sys.table) : t.DownstreamSound := by
  obtain ⟨hnodup, hheld, hflush⟩ := h
  refine ⟨hq ▸ hnodup, ?_, fun n => ?_⟩
  · rw [hq, ht]; exact hheld
  · rw [hf, hflush, SysPort.orphans, SysPort.orphans, ht]

theorem downstreamSound_of_empty {s : State} (hf : ∀ n : AgentId, s.ports[n].flush = 0) (hq : s.sys.sendq = [])
    (ht : ∀ g : GatewayTag, s.sys.table[g] = none) : s.DownstreamSound := by
  refine ⟨by rw [hq]; exact List.nodup_nil, by rw [hq]; simp, fun n => ?_⟩
  rw [hf, orphans_eq, records_eq_nil ht]; rfl

/-- A request is issued at a free gateway tag, which no waiting request holds (R107, R108). -/
theorem downstreamSound_issue {s t : State} (h : s.DownstreamSound) {g : GatewayTag} {r : OutRecord} {q : DownRequest}
    (hfree : s.sys.table[g] = none) (hr : r.orphaned = false) (hq : q.gtag = g)
    (hf : ∀ n : AgentId, t.ports[n].flush = s.ports[n].flush)
    (hsys : t.sys = { s.sys with table := s.sys.table.set g (some r), sendq := s.sys.sendq ++ [q] }) :
    t.DownstreamSound := by
  obtain ⟨hnodup, hheld, hflush⟩ := h
  subst hq
  refine ⟨?_, fun x hx => ?_, fun n => ?_⟩
  · rw [hsys, List.map_append]
    refine List.nodup_append.2 ⟨hnodup, List.nodup_singleton _, fun a ha b hb => ?_⟩
    obtain ⟨y, hy, rfl⟩ := List.mem_map.1 ha
    rw [List.map_singleton, List.mem_singleton] at hb
    rw [hb]
    intro e
    exact hheld y hy (by simp only [e]; exact hfree)
  · rw [hsys] at hx ⊢
    simp only [set_getElem_fin]
    split
    · exact Option.some_ne_none r
    · rename_i hne
      rcases List.mem_append.1 hx with hx | hx
      · exact hheld x hx
      · exact absurd (by rw [List.mem_singleton.1 hx]) hne
  · rw [hf, hflush, hsys, orphans_eq, orphans_eq, (records_set_some s.sys hfree r _).countP_eq, List.countP_cons]
    simp [hr]

/-- A gateway tag whose request has been sent is freed; the flush count of an orphaned record's agent goes down (R110, R112). -/
theorem downstreamSound_free {s t : State} (h : s.DownstreamSound) {g : GatewayTag} {r : OutRecord}
    (hg : s.sys.table[g] = some r) (hsent : s.sys.unsent g = false)
    (hf : ∀ n : AgentId, t.ports[n].flush =
      if n = r.agent ∧ r.orphaned = true then s.ports[n].flush - 1 else s.ports[n].flush)
    (hsys : t.sys = { s.sys with table := s.sys.table.set g none }) : t.DownstreamSound := by
  obtain ⟨hnodup, hheld, hflush⟩ := h
  refine ⟨by rw [hsys]; exact hnodup, fun q hq => ?_, fun n => ?_⟩
  · rw [hsys] at hq ⊢
    have hne : q.gtag ≠ g := by
      simp only [SysPort.unsent, List.any_eq_false, decide_eq_true_eq] at hsent
      exact hsent q hq
    simp only [set_getElem_fin, if_neg hne]
    exact hheld q hq
  · have hcount := (records_set_none s.sys hg).countP_eq fun x => decide (x.agent = n) && x.orphaned
    rw [List.countP_cons, ← orphans_eq, ← orphans_eq] at hcount
    rw [hf, hflush, hsys, hcount]
    by_cases hn : n = r.agent ∧ r.orphaned = true
    · rw [if_pos hn]; simp [hn.1, hn.2]
    · have hno : ¬ (r.agent = n ∧ r.orphaned = true) := fun e => hn ⟨e.1.symm, e.2⟩
      rw [if_neg hn, if_neg (by simpa using hno), Nat.add_zero]

theorem downstreamSound_portReset {s : State} (h : s.DownstreamSound) (n : AgentId) : (s.portResetStep n).DownstreamSound := by
  obtain ⟨hnodup, hheld, hflush⟩ := h
  refine ⟨by rw [portResetStep_sys, orphan_sendq]; exact hnodup, fun q hq hnone => ?_, fun m => ?_⟩
  · simp only [portResetStep_sys, orphan_sendq] at hq hnone
    rw [orphan_getElem, Option.map_eq_none_iff] at hnone
    exact hheld q hq hnone
  · rw [portResetStep_sys, orphans_eq, records_orphan, List.countP_map]
    by_cases hm : m = n
    · subst hm
      rw [portResetStep_port, countOf_eq]
      refine List.countP_congr fun r _ => ?_
      by_cases hr : r.agent = m <;> simp [hr]
    · rw [portResetStep_port_of_ne s hm, hflush, orphans_eq]
      refine List.countP_congr fun r _ => ?_
      by_cases hr : r.agent = n
      · have hnm : ¬ n = m := fun e => hm e.symm
        simp [hr, hnm]
      · simp [hr]

theorem downstreamSound_decided {s t : State} (h : s.DownstreamSound) {r : Request} (hd : s.Decided r t) :
    t.DownstreamSound := by
  cases hd with
  | fault => exact downstreamSound_congr h (fun n => by rw [State.faultRequest_ports, set_release_flush]) (by simp) (by simp)
  | missed =>
    exact downstreamSound_congr h (fun n => by rw [State.reportNotParked_ports, State.faultRequest_ports, set_release_flush])
      (by simp) (by simp)
  | parked => exact downstreamSound_congr h (fun _ => rfl) rfl rfl
  | issued ctx bank addr hit f resv same =>
    have hports : t.ports = s.ports := by rw [same]; simp
    cases hg : s.freeTag with
    | none =>
      have hsys : t.sys = s.sys := by rw [same]; simp [State.issue, hg]
      exact downstreamSound_congr h (fun _ => by rw [hports]) (by rw [hsys]) (by rw [hsys])
    | some g =>
      have hlow := (freeTag_eq_some s g).1 hg
      refine downstreamSound_issue h (r := r.outRecord ctx) (q := r.downRequest g bank addr) hlow.1 rfl rfl
        (fun _ => by rw [hports]) ?_
      rw [same, State.issue_eq s r ctx bank addr g hlow]; simp
  | condFail =>
    refine downstreamSound_congr h (fun n => ?_) (by simp) (by simp)
    simp only [State.clearReservation_ports, State.markEntry_ports, State.respond_ports, set_release_flush]

theorem foldl_finishParked_line_flush (k : FaultKind) (l : List Parked) (s : State) (n : AgentId) :
    (l.foldl (fun t p => t.finishParked k p) s).ports[n].line = s.ports[n].line ∧
      (l.foldl (fun t p => t.finishParked k p) s).ports[n].flush = s.ports[n].flush := by
  induction l generalizing s with
  | nil => exact ⟨rfl, rfl⟩
  | cons p l ih =>
    obtain ⟨hline, hflush⟩ := ih (s.finishParked k p)
    rw [State.finishParked_ports, set_release_line] at hline
    rw [State.finishParked_ports, set_release_flush] at hflush
    exact ⟨hline, hflush⟩

theorem foldl_finishParked_sys (k : FaultKind) (l : List Parked) (s : State) :
    (l.foldl (fun t p => t.finishParked k p) s).sys = s.sys :=
  foldl_keeps _ State.sys (fun _ _ => State.finishParked_sys ..) _ _

theorem foldl_finishParked_dp (k : FaultKind) (l : List Parked) (s : State) :
    (l.foldl (fun t p => t.finishParked k p) s).dp = s.dp :=
  foldl_keeps _ State.dp (fun _ _ => State.finishParked_dp ..) _ _

theorem downstreamSound_finishParked {s : State} (h : s.DownstreamSound) (k : FaultKind) (l : List Parked) :
    (l.foldl (fun t p => t.finishParked k p) s).DownstreamSound :=
  downstreamSound_congr h (fun _ => (foldl_finishParked_line_flush ..).2) (by rw [foldl_finishParked_sys])
    (by rw [foldl_finishParked_sys])

/-- An admission leaves every flush count. -/
theorem takeIn_flush (s : State) (n k : AgentId) (m : Message) : (s.takeIn n m).ports[k].flush = s.ports[k].flush := by
  by_cases hadm : s.admits n = true
  · rw [takeIn_of_admits m hadm]
    simp only [set_getElem_fin]
    split
    · rename_i hk; subst hk; rfl
    · rfl
  · rw [takeIn_of_not_admits m hadm]

theorem takeIn_sys (s : State) (n : AgentId) (m : Message) : (s.takeIn n m).sys = s.sys := by
  by_cases hadm : s.admits n = true
  · rw [takeIn_of_admits m hadm]
  · rw [takeIn_of_not_admits m hadm]

theorem relay_line_flush (s : State) (r : OutRecord) (st : MemStatus) (d : List Byte) (n : AgentId) :
    (s.relay r st d).ports[n].line = s.ports[n].line ∧ (s.relay r st d).ports[n].flush = s.ports[n].flush := by
  have hports : (s.relay r st d).ports = s.ports.set r.agent (s.ports[r.agent].release r.tag) := by
    unfold State.relay; cases st <;> simp
  rw [hports]
  exact ⟨set_release_line .., set_release_flush ..⟩

theorem relay_sys (s : State) (r : OutRecord) (st : MemStatus) (d : List Byte) : (s.relay r st d).sys = s.sys := by
  unfold State.relay; cases st <;> simp

theorem downstreamSound_downResponse {s : State} (h : s.DownstreamSound) (g : GatewayTag) (st : MemStatus) (d : List Byte) :
    (s.downResponse g st d).DownstreamSound := by
  rcases downResponse_cases s g st d with ht | ⟨r, hg, hsent, ⟨hr, ht⟩ | ⟨hr, ht⟩⟩ <;> rw [ht]
  · exact downstreamSound_congr h (fun _ => rfl) rfl rfl
  · refine downstreamSound_free h hg hsent (fun n => ?_) rfl
    rw [discard_port]
    simp only [hr, and_true]
  · refine downstreamSound_free h hg hsent (fun n => ?_) (by rw [State.freeGateway_sys, relay_sys])
    rw [State.freeGateway_ports, (relay_line_flush ..).2, hr, if_neg fun e => Bool.false_ne_true e.2]

/-- The interconnect accepts the oldest request: the others wait as before (R108). -/
theorem downstreamSound_send {s : State} (h : s.DownstreamSound) : s.sendDownstream.DownstreamSound := by
  unfold State.sendDownstream
  split
  · exact h
  · rename_i q rest hq
    obtain ⟨hnodup, hheld, hflush⟩ := h
    rw [hq] at hnodup hheld
    exact ⟨(List.nodup_cons.1 hnodup).2, fun x hx => hheld x (List.mem_cons_of_mem _ hx), hflush⟩

/-- Every effect keeps the system port sound. -/
theorem Effect.downstreamSound {s t : State} (he : Effect s t) (h : s.DownstreamSound) : t.DownstreamSound := by
  cases he with
  | quiet hq => exact downstreamSound_congr h (fun _ => by rw [hq.ports]) (by rw [hq.sys]) (by rw [hq.sys])
  | powerOn pins => exact downstreamSound_of_empty (fun n => by rw [poweredOn_port]; rfl) rfl (poweredOn_table pins)
  | admission n m => exact downstreamSound_congr h (fun k => takeIn_flush s n k m) (by rw [takeIn_sys]) (by rw [takeIn_sys])
  | resetLow n =>
    refine downstreamSound_congr h (fun m => (assertPortReset_port s n m).2.2) ?_ ?_
    all_goals unfold State.assertPortReset; split <;> rfl
  | resetHigh n => exact downstreamSound_congr h (fun m => (releasePortReset_port s n m).2.2) rfl rfl
  | portReset n => exact downstreamSound_portReset h n
  | newItem n it rest =>
    have htaken : (s.afterTaking n rest).DownstreamSound :=
      downstreamSound_congr h (fun m => (afterTaking_tags_flush s n m rest).2) rfl rfl
    rcases decideItem_cases (s.afterTaking n rest) n it with
      ⟨-, q, a, ht⟩ | ⟨-, code, ht⟩ | ⟨-, -, r, -, -, ht⟩ <;> rw [ht]
    · exact downstreamSound_congr htaken (fun _ => by rw [State.addFault_ports]) (by simp) (by simp)
    · refine downstreamSound_congr htaken (fun m => ?_) (by simp) (by simp)
      rw [State.respond_ports, set_release_flush]; rfl
    · exact downstreamSound_decided htaken (decideRequest_decided _ r)
  | replay r rest =>
    have htaken : (s.replayTaken rest).DownstreamSound := h
    exact downstreamSound_decided htaken (decideRequest_decided (s.replayTaken rest) r.request)
  | ageParked => refine downstreamSound_finishParked ?_ _ _; exact h
  | softReset => exact downstreamSound_congr h (fun n => by rw [softReset_port]; rfl) rfl rfl
  | releaseKey k => exact h
  | abortKey k => refine downstreamSound_finishParked ?_ _ _; exact h
  | popReport => exact h
  | serveBacklog => exact h
  | send => exact downstreamSound_send h
  | receive g st d => exact downstreamSound_downResponse h g st d

/-- Settles O56: each effect of a step keeps the system port sound. -/
theorem downstreamStaysSound : Obligations.DownstreamStaysSound :=
  fun _ _ hs h => step_induction (fun _ _ => Effect.downstreamSound) hs h

end Sys2Proof.Machine
end

section
/-! Every count stays in its range and every queue within its capacity. -/

namespace Sys2Proof.Machine

/-! ### The blocks that hold no request -/

theorem localRange_poweredOn (pins : Pins) (s : State) :
    ({ State.poweredOn pins with out := s.out, pending := s.pending } : State).LocalRange where
  log := ⟨Nat.zero_le _, Nat.zero_le _⟩
  cmd := ⟨Nat.zero_le _, Nat.zero_le _⟩
  ev := ⟨Nat.zero_le _, fun n => by simp [State.poweredOn, State.reset, Mailbox.initial]⟩
  resv n := by simp [State.poweredOn, State.reset, Reservation.cleared]
  epoch := epochPeriod_pos _
  timer := ⟨show 1 ≤ (4095 : BitVec 12).toNat by decide, .inl rfl⟩

theorem State.LocalRange.softReset {s : State} (h : s.LocalRange) : s.softReset.LocalRange where
  log := ⟨Nat.zero_le _, Nat.zero_le _⟩
  cmd := ⟨Nat.zero_le _, Nat.zero_le _⟩
  ev := ⟨Nat.zero_le _, fun n => by simp [State.softReset, EventBlock.afterSoftReset, Mailbox.initial]⟩
  resv := (h.mapResv fun _ _ _ => Nat.zero_le _).resv
  epoch := h.epoch
  timer := ⟨h.timer.1, .inl rfl⟩

theorem State.LocalRange.takeIn {s : State} (h : s.LocalRange) (n : AgentId) (m : Message) : (s.takeIn n m).LocalRange := by
  by_cases hadm : s.admits n = true
  · rw [takeIn_of_admits m hadm]; exact { h with }
  · rw [takeIn_of_not_admits m hadm]; exact h

theorem State.LocalRange.relay {s : State} (h : s.LocalRange) (r : OutRecord) (st : MemStatus) (d : List Byte) :
    (s.relay r st d).LocalRange := by
  unfold State.relay
  cases st with
  | ok => exact h.respond ..
  | error => exact (h.respond ..).addFault ..

theorem State.LocalRange.downResponse {s : State} (h : s.LocalRange) (g : GatewayTag) (st : MemStatus) (d : List Byte) :
    (s.downResponse g st d).LocalRange := by
  rcases downResponse_cases s g st d with ht | ⟨r, -, -, ⟨-, ht⟩ | ⟨-, ht⟩⟩ <;> rw [ht]
  · exact { h with }
  · exact { h with }
  · exact { h.relay r st d with }

/-- Every effect keeps the counts of the blocks that hold no request in range. -/
theorem Effect.localRange {s t : State} (he : Effect s t) (h : s.LocalRange) : t.LocalRange := by
  cases he with
  | quiet hq => exact hq.range h
  | powerOn pins => exact localRange_poweredOn pins s
  | admission n m => exact h.takeIn n m
  | resetLow n =>
    unfold State.assertPortReset
    split
    · exact h
    · exact { h with }
  | resetHigh n => exact { h with }
  | portReset n => exact { h with resv := (h.clearReservation n).resv }
  | newItem n it rest =>
    have htaken : (s.afterTaking n rest).LocalRange := { h with }
    rcases decideItem_cases (s.afterTaking n rest) n it with
      ⟨-, q, a, ht⟩ | ⟨-, code, ht⟩ | ⟨-, -, r, -, -, ht⟩ <;> rw [ht]
    · exact htaken.addFault ..
    · exact (htaken.signalMailbox ..).respond ..
    · exact (decideRequest_decided _ r).localRange htaken
  | replay r rest =>
    have htaken : (s.replayTaken rest).LocalRange := { h with }
    exact (decideRequest_decided _ r.request).localRange htaken
  | ageParked => refine State.LocalRange.foldl_finishParked ?_ _ _; exact { h with }
  | softReset => exact h.softReset
  | releaseKey k => exact { h with }
  | abortKey k => refine State.LocalRange.foldl_finishParked ?_ _ _; exact { h with }
  | popReport => exact { h with }
  | serveBacklog => exact h.serveBacklog
  | send =>
    unfold State.sendDownstream
    split
    · exact h
    · exact { h with }
  | receive g st d => exact h.downResponse g st d

/-! ### The ports -/

/-- What an effect may do to the counts of port `p`, whose agent has `records` outstanding records: its line grows only up to 4
items, and its flush count goes down or is set to `records`. -/
structure Port.CountsMove (p q : Port) (records : Nat) : Prop where
  line : q.line.length ≤ p.line.length ∨ q.line.length ≤ 4
  flush : q.flush ≤ p.flush ∨ q.flush = records

theorem Port.CountsMove.of_eq {p q : Port} {records : Nat} (h : q.line = p.line ∧ q.flush = p.flush) :
    p.CountsMove q records := ⟨.inl (by rw [h.1]), .inl h.2.le⟩

theorem State.Decided.line_flush {s t : State} {r : Request} (h : s.Decided r t) (n : AgentId) :
    t.ports[n].line = s.ports[n].line ∧ t.ports[n].flush = s.ports[n].flush := by
  cases h with
  | fault => rw [State.faultRequest_ports]; exact ⟨set_release_line .., set_release_flush ..⟩
  | missed =>
    rw [State.reportNotParked_ports, State.faultRequest_ports]; exact ⟨set_release_line .., set_release_flush ..⟩
  | parked => exact ⟨rfl, rfl⟩
  | issued _ _ _ _ _ _ same => rw [same]; simp
  | condFail =>
    simp only [State.clearReservation_ports, State.markEntry_ports, State.respond_ports]
    exact ⟨set_release_line .., set_release_flush ..⟩

theorem decideItem_line_flush (s : State) (n m : AgentId) (it : Item) :
    (s.decideItem n it).ports[m].line = s.ports[m].line ∧ (s.decideItem n it).ports[m].flush = s.ports[m].flush := by
  rcases decideItem_cases s n it with ⟨-, q, a, ht⟩ | ⟨-, code, ht⟩ | ⟨-, -, r, -, -, ht⟩ <;> rw [ht]
  · rw [State.addFault_ports]; exact ⟨rfl, rfl⟩
  · rw [State.respond_ports]; exact ⟨set_release_line .., set_release_flush ..⟩
  · exact (decideRequest_decided s r).line_flush m

/-- A line grows by an admission only, which finds room (R6, R9). -/
theorem takeIn_countsMove (s : State) (n k : AgentId) (m : Message) (records : Nat) :
    s.ports[k].CountsMove (s.takeIn n m).ports[k] records := by
  refine ⟨?_, .inl (takeIn_flush s n k m).le⟩
  by_cases hadm : s.admits n = true
  · rw [takeIn_of_admits m hadm]
    simp only [set_getElem_fin]
    split
    · right
      rw [List.length_append]
      exact ((admits_iff s n).1 hadm).2
    · exact .inl le_rfl
  · rw [takeIn_of_not_admits m hadm]; exact .inl le_rfl

theorem downResponse_countsMove (s : State) (g : GatewayTag) (st : MemStatus) (d : List Byte) (n : AgentId) (records : Nat) :
    s.ports[n].CountsMove (s.downResponse g st d).ports[n] records := by
  rcases downResponse_cases s g st d with ht | ⟨r, -, -, ⟨-, ht⟩ | ⟨-, ht⟩⟩ <;> rw [ht]
  · exact .of_eq ⟨rfl, rfl⟩
  · rw [discard_port]
    refine ⟨.inl le_rfl, .inl ?_⟩
    dsimp only
    split
    · exact Nat.sub_le _ _
    · exact le_rfl
  · exact .of_eq (relay_line_flush s r st d n)

/-- Every effect keeps each line within 4 items, and sets a flush count by a port reset step only (R9, R16, R17). -/
theorem Effect.countsMove {s t : State} (he : Effect s t) (n : AgentId) :
    s.ports[n].CountsMove t.ports[n] (s.sys.countOf n) := by
  cases he with
  | quiet hq => exact .of_eq (by rw [hq.ports]; exact ⟨rfl, rfl⟩)
  | powerOn pins =>
    have hport : ({ State.poweredOn pins with out := s.out, pending := s.pending } : State).ports[n] =
        { Port.initial with resetLow := !pins.agrstN.getLsbD n.val } := poweredOn_port pins n
    rw [hport]; exact ⟨.inl (Nat.zero_le _), .inl (Nat.zero_le _)⟩
  | admission k m => exact takeIn_countsMove s k n m _
  | resetLow k => exact .of_eq ⟨(assertPortReset_port s k n).1, (assertPortReset_port s k n).2.2⟩
  | resetHigh k => exact .of_eq ⟨(releasePortReset_port s k n).1, (releasePortReset_port s k n).2.2⟩
  | portReset k =>
    by_cases hn : n = k
    · subst hn; rw [portResetStep_port]; exact ⟨.inl (Nat.zero_le _), .inr rfl⟩
    · rw [portResetStep_port_of_ne s hn]; exact .of_eq ⟨rfl, rfl⟩
  | newItem k it rest hserves =>
    obtain ⟨hline, hflush⟩ := decideItem_line_flush (s.afterTaking k rest) k n it
    refine ⟨.inl ?_, .inl (hflush.trans (afterTaking_tags_flush s k n rest).2).le⟩
    rw [hline, afterTaking_line]
    split
    · rename_i hn; subst hn; rw [hserves.2.2, List.length_cons]; omega
    · exact le_rfl
  | replay r rest => exact .of_eq ((decideRequest_decided (s.replayTaken rest) r.request).line_flush n)
  | ageParked => exact .of_eq (foldl_finishParked_line_flush ..)
  | softReset => rw [softReset_port]; exact ⟨.inl (Nat.zero_le _), .inl le_rfl⟩
  | releaseKey k => exact .of_eq ⟨rfl, rfl⟩
  | abortKey k => exact .of_eq (foldl_finishParked_line_flush ..)
  | popReport => exact .of_eq ⟨rfl, rfl⟩
  | serveBacklog => exact .of_eq ⟨rfl, rfl⟩
  | send => unfold State.sendDownstream; split <;> exact .of_eq ⟨rfl, rfl⟩
  | receive g st d => exact downResponse_countsMove s g st d n _

/-! ### Requests held off their lines -/

theorem State.Decided.parked_length {s t : State} {r : Request} (h : s.Decided r t) :
    t.miss.parked.length = s.miss.parked.length ∨
      s.miss.parked.length < 16 ∧ t.miss.parked.length = s.miss.parked.length + 1 := by
  cases h with
  | fault => exact .inl (by simp)
  | missed => exact .inl (by simp [reportNotParked_parked])
  | parked ctx key room =>
    obtain ⟨before, after, hsplit, -, -, hplaced⟩ := insertByOrder_split ⟨r.missItem ctx key, 0⟩ s.miss.parked
    refine .inr ⟨room, ?_⟩
    rw [State.park_miss, park_parked, hplaced, hsplit]
    simp only [List.length_append, List.length_cons]; omega
  | issued _ _ _ _ _ _ same => exact .inl (by rw [same]; simp)
  | condFail => exact .inl (by simp)

theorem downResponse_dp (s : State) (g : GatewayTag) (st : MemStatus) (d : List Byte) : (s.downResponse g st d).dp = s.dp := by
  rcases downResponse_cases s g st d with ht | ⟨r, -, -, ⟨-, ht⟩ | ⟨-, ht⟩⟩ <;> rw [ht]
  · rfl
  · unfold State.relay; cases st <;> simp

/-- Every effect keeps the parked list and the replay queue within 16 together (R27, R77): a new item is decided only with the
replay queue empty, and a replay item leaves its place. -/
theorem Effect.heldOff_le {s t : State} (he : Effect s t) (h : s.miss.parked.length + s.dp.replay.length ≤ 16) :
    t.miss.parked.length + t.dp.replay.length ≤ 16 := by
  cases he with
  | quiet hq => rw [hq.miss, hq.replay]; exact h
  | powerOn => exact Nat.zero_le _
  | admission n m =>
    by_cases hadm : s.admits n = true
    · rw [takeIn_of_admits m hadm]; exact h
    · rw [takeIn_of_not_admits m hadm]; exact h
  | resetLow n => unfold State.assertPortReset; split <;> exact h
  | resetHigh n => exact h
  | portReset n =>
    have hparked : (s.portResetStep n).miss.parked.length ≤ s.miss.parked.length := List.length_filter_le _ _
    have hreplay : (s.portResetStep n).dp.replay.length ≤ s.dp.replay.length := List.length_filter_le _ _
    omega
  | newItem n it rest hserves =>
    have hempty : s.dp.replay = [] := hserves.1.2.1
    have htaken : (s.afterTaking n rest).miss.parked.length + (s.afterTaking n rest).dp.replay.length ≤ 16 := h
    rcases decideItem_cases (s.afterTaking n rest) n it with
      ⟨-, q, a, ht⟩ | ⟨-, code, ht⟩ | ⟨-, -, r, -, -, ht⟩ <;> rw [ht]
    · rw [State.addFault_miss, State.addFault_dp]; exact htaken
    · rw [State.respond_miss, State.respond_dp]; exact htaken
    · have hd := decideRequest_decided (s.afterTaking n rest) r
      have hreplay : (s.afterTaking n rest).dp.replay.length = 0 := by
        show s.dp.replay.length = 0
        rw [hempty]; rfl
      rw [hd.dp]
      rcases hd.parked_length with hlen | ⟨hroom, hlen⟩ <;> omega
  | replay r rest hready hr =>
    have hd := decideRequest_decided (s.replayTaken rest) r.request
    have htaken : (s.replayTaken rest).miss.parked.length + (s.replayTaken rest).dp.replay.length + 1 ≤ 16 := by
      rw [hr, List.length_cons] at h; exact h
    rw [hd.dp]
    rcases hd.parked_length with hlen | ⟨hroom, hlen⟩ <;> omega
  | ageParked =>
    have hdp : s.ageParked.dp = s.dp := foldl_finishParked_dp ..
    rw [ageParked_miss, hdp]
    have hparked := List.length_filter_le (fun q : Parked => !q.expired s.config.missTimeout) (s.miss.parked.map Parked.older)
    rw [List.length_map] at hparked
    exact (Nat.add_le_add_right hparked _).trans h
  | softReset => exact Nat.zero_le _
  | releaseKey k =>
    have hparked : (s.releaseKey k).miss.parked = s.miss.parked.filter fun q => !q.under k := rfl
    have hreplay : (s.releaseKey k).dp.replay = s.dp.replay ++ (s.miss.parked.filter (·.under k)).map (·.item) := rfl
    have hboth := (filter_items_perm (·.under k) s.miss.parked).length_eq
    rw [hparked, hreplay]
    simp only [List.length_append, List.length_map] at hboth ⊢
    omega
  | abortKey k =>
    have hdp : (s.abortKey k).dp = s.dp := foldl_finishParked_dp ..
    rw [abortKey_miss, hdp]
    exact (Nat.add_le_add_right (List.length_filter_le _ _) _).trans h
  | popReport =>
    show s.miss.pop.parked.length + _ ≤ 16
    rw [pop_parked]; exact h
  | serveBacklog => rw [State.serveBacklog_miss, serve_parked]; exact h
  | send => unfold State.sendDownstream; split <;> exact h
  | receive g st d => rw [downResponse_miss, downResponse_dp]; exact h

/-! ### All together -/

theorem inRange_iff (s : State) :
    s.InRange ↔ (∀ n : AgentId, s.ports[n].line.length ≤ 4) ∧ s.miss.parked.length + s.dp.replay.length ≤ 16 ∧
      s.miss.InRange ∧ s.LocalRange := by
  constructor
  · rintro ⟨hline, hheld, hqueue, hlost, hrecords, hloglost, hfifo, hresults, hstack, hmail, hage, hresv, hdivider, hcompare,
      hprescaler⟩
    exact ⟨hline, hheld, ⟨hqueue, hlost, hage⟩,
      ⟨⟨hrecords, hloglost⟩, ⟨hfifo, hresults⟩, ⟨hstack, hmail⟩, hresv, hdivider, ⟨hcompare, hprescaler⟩⟩⟩
  · rintro ⟨hline, hheld, ⟨hqueue, hlost, hage⟩,
      ⟨⟨hrecords, hloglost⟩, ⟨hfifo, hresults⟩, ⟨hstack, hmail⟩, hresv, hdivider, ⟨hcompare, hprescaler⟩⟩⟩
    exact ⟨hline, hheld, hqueue, hlost, hrecords, hloglost, hfifo, hresults, hstack, hmail, hage, hresv, hdivider, hcompare,
      hprescaler⟩

theorem Effect.inRange {s t : State} (he : Effect s t) (h : s.InRange) : t.InRange := by
  obtain ⟨hline, hheld, hmiss, hlocal⟩ := (inRange_iff s).1 h
  refine (inRange_iff t).2 ⟨fun n => ?_, he.heldOff_le hheld, he.miss_induction (fun _ _ => MissStep.inRange) hmiss,
    he.localRange hlocal⟩
  rcases (he.countsMove n).line with hle | hle
  · exact hle.trans (hline n)
  · exact hle

/-! ### Flush counts -/

/-- An agent has at most 4 records: while its port flushes they are its orphans, and else they carry tags of its own (R5,
R17). -/
theorem countOf_le {s : State} (hd : s.DownstreamSound) (ht : s.TagsSound) (hf : ∀ n : AgentId, s.ports[n].flush ≤ 4)
    (n : AgentId) : s.sys.countOf n ≤ 4 := by
  obtain ⟨hnodup, -, hflushing⟩ := ht n
  have hflush := hd.2.2 n
  rw [orphans_eq] at hflush
  rw [occupied_eq] at hnodup hflushing
  have hsplit : s.sys.countOf n = s.ports[n].flush + (downTags n s.sys.records).length := by
    rw [countOf_eq, hflush]
    generalize s.sys.records = l
    induction l with
    | nil => rfl
    | cons r l ih =>
      rw [List.countP_cons, List.countP_cons, ih]
      cases ho : r.orphaned with
      | true =>
        rw [downTags_cons_orphaned n ho]
        by_cases hr : r.agent = n
        · simp [hr]; omega
        · simp [hr]
      | false =>
        rw [downTags_cons n ho]
        by_cases hr : r.agent = n
        · simp [hr, heldTags]; omega
        · simp [hr, heldTags]
  rw [hsplit]
  by_cases hpos : 0 < s.ports[n].flush
  · have hnil := (List.append_eq_nil_iff.1 (hflushing hpos)).2
    rw [hnil]; exact hf n
  · have hown : (downTags n s.sys.records).Nodup := (List.nodup_append.1 hnodup).2.1
    have hlen := hown.length_le_card
    rw [Fintype.card_fin] at hlen
    omega

/-! ### The premises of the second part -/

/-- What every effect keeps, and from which the bounds of the miss page set and of the send queue follow: the counts that keep
themselves in range, the flush counts, and the invariants on members, gateway tags and tags. -/
structure State.BoundedBy (s : State) : Prop where
  inRange : s.InRange
  flush : ∀ n : AgentId, s.ports[n].flush ≤ 4
  members : s.miss.MembersParked
  downstream : s.DownstreamSound
  tags : s.TagsSound

theorem Effect.boundedBy {s t : State} (he : Effect s t) (h : s.BoundedBy) : t.BoundedBy where
  inRange := he.inRange h.inRange
  flush n := by
    rcases (he.countsMove n).flush with hle | heq
    · exact hle.trans (h.flush n)
    · rw [heq]; exact countOf_le h.downstream h.tags h.flush n
  members := he.miss_induction (fun _ _ => MissStep.membersParked) h.members
  downstream := he.downstreamSound h.downstream
  tags := (tagsHeld_nil_iff t).1 (he.tagsHeld ((tagsHeld_nil_iff s).2 h.tags))

/-- No more members than parked records, and no more waiting requests than gateway tags. -/
theorem State.BoundedBy.bounded {s : State} (h : s.BoundedBy) : s.Bounded := by
  obtain ⟨-, hheld, -, -⟩ := (inRange_iff s).1 h.inRange
  have hmembers := h.members.length_le
  have hsendq := h.downstream.1.length_le_card
  rw [List.length_map, Fintype.card_fin] at hsendq
  exact ⟨h.inRange, h.flush, by omega, hsendq⟩

theorem boundedBy_of_sound {s : State} (hb : s.Bounded) (hm : s.PageSetSound) (hd : s.DownstreamSound) (ht : s.TagsSound) :
    s.BoundedBy where
  inRange := hb.1
  flush := hb.2.1
  members := by
    refine ⟨hm.1, fun x hx => ?_⟩
    obtain ⟨y, hy, rfl⟩ := List.mem_map.1 hx
    exact hm.2.1 y hy
  downstream := hd
  tags := ht

/-- Settles O51: each effect of a step keeps the counts in range, and with them what bounds the other counts. -/
theorem countsAndQueuesStayBounded : Obligations.CountsAndQueuesStayBounded := by
  refine ⟨fun s t hs h => step_induction (fun _ _ => Effect.inRange) hs h, fun s t hb hm hd ht h => ?_⟩
  exact (step_induction (fun _ _ => Effect.boundedBy) (boundedBy_of_sound hb hm hd ht) h).bounded

end Sys2Proof.Machine
end

section
/-! The steps of the decision point: which rows are host command steps and which new agent item steps, and that a step that is
not ready is not taken. -/

namespace Sys2Proof.Machine

/-- Settles O1: the branch of the step for a queue that is not empty. -/
theorem stepRunsFrontCommand : Obligations.StepRunsFrontCommand := by
  intro c rest s h
  simp only [step, h]

/-! ### The rows of a kind of step -/

/-- Every row of the host commands is a host command step, for the kinds that the row executes and with its body. -/
theorem exec_of_mem_hostCommandSteps {c : Instr} (h : c ∈ hostCommandSteps) (s : State) :
    ∃ (p : Byte → Bool) (body : Vector Word 4 → CmdResult), exec c s = .next (s.commandStep p body) := by
  simp only [hostCommandSteps, List.mem_cons, List.not_mem_nil, or_false] at h
  rcases h with rfl | rfl | rfl | rfl | rfl | rfl | rfl | rfl | rfl | rfl | rfl | rfl | rfl | rfl | rfl | rfl | rfl | rfl
  all_goals exact ⟨_, _, rfl⟩

/-- Every row of the new agent items is a new agent item step, for the items of the row. -/
theorem exec_of_mem_newItemSteps {c : Instr} (h : c ∈ newItemSteps) (s : State) :
    ∃ p : Item → Bool, exec c s = .next (s.takeNewItem p) := by
  simp only [newItemSteps, List.mem_cons, List.not_mem_nil, or_false] at h
  rcases h with rfl | rfl | rfl
  all_goals exact ⟨_, rfl⟩

theorem exec_newAgentItemStep (s : State) : exec .newAgentItemStep s = .next (s.takeNewItem fun _ => true) := rfl

theorem exec_replayStep (s : State) :
    exec .replayStep s = .next (if s.nextStep = some .replay then s.replayStep else s) := rfl

/-! ### Steps that are not ready -/

/-- A host command row changes nothing while the command FIFO's head cannot be executed (R24, R28). -/
theorem exec_hostCommand_of_not_ready {s : State} (h : ¬ s.CommandReady) {c : Instr} (hc : c ∈ hostCommandSteps) :
    exec c s = .next s := by
  obtain ⟨p, body, hexec⟩ := exec_of_mem_hostCommandSteps hc s
  rw [hexec]
  rcases commandStep_cases s p body with hsame | ⟨k, a, hhead, -⟩
  · rw [hsame]
  · exact absurd hhead.1 h

/-- A new agent item row changes nothing while no item is served (R24, R29). -/
theorem exec_newItem_of_not_serves {s : State} (h : ∀ n it rest, ¬ s.ServesItem n it rest) {c : Instr}
    (hc : c ∈ newItemSteps) : exec c s = .next s := by
  obtain ⟨p, hexec⟩ := exec_of_mem_newItemSteps hc s
  rw [hexec]
  rcases takeNewItem_cases s p with hsame | ⟨n, it, rest, hserves, -⟩
  · rw [hsame]
  · exact absurd hserves (h n it rest)

/-- A new agent item row changes nothing while a step of a kind above it is ready (R24). -/
theorem exec_newItem_of_not_ready {s : State} (h : ¬ s.NewItemReady) {c : Instr} (hc : c ∈ newItemSteps) :
    exec c s = .next s :=
  exec_newItem_of_not_serves (fun _ _ _ hserves => h hserves.1) hc

/-- REPLAY_STEP changes nothing while the replay queue's head cannot be taken (R24, R27). -/
theorem exec_replayStep_of_not_ready {s : State} (h : ¬ s.ReplayReady) : exec .replayStep s = .next s := by
  rw [exec_replayStep, if_neg fun hnext => h (replayReady_of_nextStep hnext).1]

/-- PORT_RESET_STEP changes nothing while an epoch step is pending (R24). -/
theorem exec_portResetStep_of_epoch {s : State} (h : s.dp.epoch ≠ none) : exec .portResetStep s = .next s := by
  show execPortResetStep s = _
  rw [execPortResetStep, nextStep_epoch h]

/-- Settles O15: each hypothesis denies a part of the readiness of the rows it speaks of. -/
theorem higherStepsHoldBackLowerOnes : Obligations.HigherStepsHoldBackLowerOnes := by
  intro s
  refine ⟨exec_portResetStep_of_epoch, fun hurgent c hc => ?_,
    fun hreplay _ => exec_newItem_of_not_ready fun ⟨_, hempty, _⟩ => hreplay hempty,
    fun hreplay hgate _ => exec_hostCommand_of_not_ready fun ⟨_, hno, _⟩ => hno.elim hreplay (· hgate),
    fun hfifo hroom _ => exec_newItem_of_not_ready fun ⟨_, _, hno⟩ => hno.elim hfifo (by omega),
    fun hfull _ => exec_hostCommand_of_not_ready fun ⟨_, _, hroom⟩ => by omega,
    fun hgate => exec_replayStep_of_not_ready fun ⟨_, hopen⟩ => hgate hopen⟩
  rcases List.mem_cons.1 hc with rfl | hc
  · exact exec_replayStep_of_not_ready fun ⟨hno, _⟩ => hurgent hno
  · rcases List.mem_append.1 hc with hc | hc
    · exact exec_hostCommand_of_not_ready (fun ⟨hno, _⟩ => hurgent hno) hc
    · exact exec_newItem_of_not_ready (fun ⟨hno, _⟩ => hurgent hno) hc

/-! ### Steps that are taken -/

/-- An access that is no conflict item is decided as a request of its port (R31). -/
theorem decideItem_access (s : State) (n : AgentId) {it : Item} {a : Access} (hc : it.conflict = false)
    (hb : it.body = .access a) : s.decideItem n it = s.decideRequest (it.request n a) := by
  simp [State.decideItem, hc, hb]

/-- Settles O12, by whether some port's head is eligible. -/
theorem newAgentItemStepServesRotation : Obligations.NewAgentItemStepServesRotation := by
  refine fun s => ⟨fun n it rest hserves => ⟨?_, fun a hc hb => decideItem_access _ n hc hb⟩, fun _ hnone => ?_⟩
  · rw [exec_newAgentItemStep, takeNewItem_serves hserves, if_pos rfl]
  · exact exec_newItem_of_not_serves (fun n _ _ ⟨_, hserved, _⟩ => hnone n hserved.1) (by simp [newItemSteps])

/-- The replay step at a queue with a head (R88, R86). -/
theorem replayStep_of_cons {s : State} {r : MissItem} {rest : List MissItem} (h : s.dp.replay = r :: rest) :
    s.replayStep = ((s.replayTaken rest).decideRequest r.request).serveBacklog := by
  simp only [State.replayStep, State.replayDecided, h, State.replayTaken]

/-- Settles O14: with its head ready, the replay step is the next step. -/
theorem replayStepDecidesHeadAfresh : Obligations.ReplayStepDecidesHeadAfresh := by
  intro s r rest hready hr
  have hnext : s.nextStep = some .replay := nextStep_replay hready (by simp [hr])
  rw [exec_replayStep, if_pos hnext, replayStep_of_cons hr]
  rfl

end Sys2Proof.Machine
end

section
/-! The issue of a request of a read-type kind. -/

namespace Sys2Proof.Machine

/-- The request of a read-type kind that passes its checks: it is issued, its entry is marked, and a ReserveRead replaces its
agent's reservation (R63, R97). -/
theorem passRequest_of_readType (s : State) {r : Request} (c : ContextId) (b : BitVec 4) (a : Word) (hit : Option EntryId)
    (h : r.acc.kind = .read ∨ r.acc.kind = .fetch ∨ r.acc.kind = .reserveRead) :
    s.passRequest r c b a hit = { (s.issue r c b a).markEntry hit (·.markIssued r.acc.kind) with
      resv := if r.acc.kind = .reserveRead
        then s.resv.set r.agent { valid := true, bank := b, line := lineOf a, age := 0 } else s.resv } := by
  rcases h with h | h | h <;> simp only [State.passRequest, h, reduceCtorEq, if_true, if_false]
  case inl | inr.inl => rw [← State.issue_resv s r c b a, ← State.markEntry_resv]
  case inr.inr => rw [State.reserve, State.markEntry_resv, State.issue_resv]

/-- Marking an entry changes nothing but the cache (R63). -/
theorem markEntry_eq (s : State) (hit : Option EntryId) (f : Entry → Entry) :
    s.markEntry hit f = { s with cache := (s.markEntry hit f).cache } := by
  cases hit <;> rfl

/-- What an issued request of a read-type kind leaves in its entry: Referenced set, Modified as it was (R63). -/
theorem Entry.markIssued_of_readType (e : Entry) {k : AccessKind} (h : k = .read ∨ k = .fetch ∨ k = .reserveRead) :
    e.markIssued k = { e with referenced := true } := by
  rcases h with rfl | rfl | rfl <;> simp [Entry.markIssued, AccessKind.isWriteType]

/-- The downstream request of a read-type kind is a Fetch for a Fetch and else a Read, without data (R108). -/
theorem Request.downRequest_of_readType (r : Request) (g : GatewayTag) (b : BitVec 4) (a : Word)
    (h : r.acc.kind = .read ∨ r.acc.kind = .fetch ∨ r.acc.kind = .reserveRead) :
    r.downRequest g b a = { gtag := g, kind := if r.acc.kind = .fetch then .fetch else .read, bank := b, addr := a,
                            len := r.acc.len, data := [] } := by
  rcases h with h | h | h <;> simp [Request.downRequest, AccessKind.down, AccessKind.isWriteType, h]

/-- Settles O20: the issue takes the lowest free tag, and the kind fixes the marks and the reservation. -/
theorem readTypeRequestIsIssued : Obligations.ReadTypeRequestIsIssued := by
  intro s r c bank addr hit g hfree hkind
  refine ⟨_, passRequest_of_readType s c bank addr hit hkind, ?_, ?_, ?_, ?_, ?_⟩
  · rw [markEntry_eq, State.issue_eq s r c bank addr g hfree]
  · rw [State.markEntry_sys, State.issue_eq s r c bank addr g hfree, Request.downRequest_of_readType r g bank addr hkind]
    rfl
  · cases hit with
    | none => exact State.issue_cache ..
    | some i => simp only [State.markEntry, State.issue_cache, Entry.markIssued_of_readType _ hkind]
  · exact fun h => if_neg h
  · intro h line hline
    rw [(eq_lineOf_iff line addr).2 hline]
    exact if_pos h

end Sys2Proof.Machine
end

section
/-! The epoch step that performs no soft reset, and the rows that are this step. -/

namespace Sys2Proof.Machine

/-! ### Which epoch step is pending -/

/-- The soft reset is due where it is armed, the latest event is unmarked and no gateway tag is held (R161). -/
theorem softResetDue_iff (s : State) (mark : Bool) :
    s.softResetDue mark = true ↔ s.power.resetArmed = true ∧ mark = false ∧ ∀ g : GatewayTag, s.sys.table[g] = none := by
  simp only [State.softResetDue, Bool.and_eq_true, allCreditsFree_iff, Bool.not_eq_true', and_assoc]

theorem ageingStepPending_of_not_due {s : State} {mark : Bool} (he : s.dp.epoch = some mark)
    (hdue : s.softResetDue mark = false) : s.ageingStepPending = true := by
  simp only [State.ageingStepPending, he, hdue, Bool.not_false]

/-- Without a soft reset the pending epoch step does duties 2 to 4 and serves the backlog (R33, R86). -/
theorem takeEpochStep_of_not_due {s : State} {mark : Bool} (he : s.dp.epoch = some mark)
    (hdue : s.softResetDue mark = false) : s.takeEpochStep = s.dropEpoch.epochDuties.serveBacklog := by
  have hdrop : s.dropEpoch.softResetDue mark = false := hdue
  simp only [State.takeEpochStep, he, State.epochStep, hdrop, Bool.false_eq_true, if_false]

/-! ### Ageing -/

/-- A parked record is one epoch older, up to 15 (R90). -/
theorem Parked.older_eq (p : Parked) : p.older = { p with age := if p.age < 15 then p.age + 1 else p.age } := rfl

/-- A record is at the miss timeout (R90). -/
theorem Parked.expired_eq (t : BitVec 4) : Parked.expired t = fun p => t != 0 && decide (t.toNat ≤ p.age) := by
  funext p
  simp [Parked.expired, bne, Bool.beq_eq_decide_eq]

/-- A clear reservation does not age (R103). -/
theorem Reservation.older_of_clear {r : Reservation} (l : BitVec 4) (h : r.valid = false) : r.older l = r := by
  simp [Reservation.older, h]

/-- A valid reservation ages up to 15, and is cleared at the lifetime (R103). -/
theorem Reservation.older_of_valid {r : Reservation} (l : BitVec 4) (h : r.valid = true) :
    r.older l = if l ≠ 0 ∧ l.toNat ≤ satInc 15 r.age then Reservation.cleared else { r with age := satInc 15 r.age } := by
  simp only [Reservation.older, h, if_true, Bool.and_eq_true, decide_eq_true_eq]

/-- A valid reservation that ageing clears expires (R103). -/
theorem Reservation.expires_of_cleared {r : Reservation} {l : BitVec 4} (hv : r.valid = true)
    (hc : r.older l = Reservation.cleared) : r.expires l = true := by
  simp [Reservation.expires, hv, hc, Reservation.cleared]

/-- Parked ageing changes neither the reservations nor the timer nor DeviceConfig (R90). -/
@[simp] theorem ageParked_resv (s : State) : s.ageParked.resv = s.resv :=
  foldl_keeps _ State.resv (fun _ _ => State.finishParked_resv ..) _ _

@[simp] theorem ageParked_timer (s : State) : s.ageParked.timer = s.timer :=
  foldl_keeps _ State.timer (fun _ _ => State.finishParked_timer ..) _ _

@[simp] theorem ageParked_config (s : State) : s.ageParked.config = s.config :=
  foldl_keeps _ State.config (fun _ _ => State.finishParked_config ..) _ _

/-- The reservations after duty 3 of the epoch step (R103). -/
def State.agedReservations (s : State) : Vector Reservation 8 := mapIdx (fun _ r => r.older s.config.lifetime) s.resv

theorem agedReservations_getElem (s : State) (n : AgentId) :
    s.agedReservations[n] = s.resv[n].older s.config.lifetime := mapIdx_fin ..

/-- Duties 2 and 3 of the epoch step (R33). -/
def State.aged (s : State) : State := { s.dropEpoch.ageParked with resv := s.agedReservations }

/-- Duties 2 to 4 of the epoch step: the timer that ticks is the one before the step (R33, R155). -/
theorem epochDuties_eq (s : State) :
    s.dropEpoch.epochDuties = if s.timer.run = true ∧ s.timer.clock = .epoch then s.aged.tick else s.aged := by
  have haged : s.dropEpoch.ageParked.ageReservations = s.aged := by
    simp [State.ageReservations, State.aged, State.agedReservations]
  have htimer : s.aged.timer = s.timer := ageParked_timer s.dropEpoch
  simp only [State.epochDuties, haged, State.epochTick, htimer, Bool.and_eq_true, decide_eq_true_eq]

/-! ### The rows that are the epoch step -/

/-- MISS_TIMEOUT is the pending epoch step where it times a record out (R33, R90). -/
theorem exec_missTimeout_of_expired {s : State} (hp : s.ageingStepPending = true) {p : Parked}
    (hmem : p ∈ s.miss.parked.map Parked.older) (hexp : p.expired s.config.missTimeout = true) :
    exec .missTimeout s = .next s.takeEpochStep := by
  obtain ⟨q, hq, rfl⟩ := List.mem_map.1 hmem
  have hany : s.miss.parked.any (fun q => q.older.expired s.config.missTimeout) = true :=
    List.any_eq_true.2 ⟨q, hq, hexp⟩
  show execMissTimeout s = _
  rw [execMissTimeout, if_pos (by rw [hp, hany]; rfl)]

/-- RESERVATION_EXPIRY is the pending epoch step where it expires a reservation (R33, R103). -/
theorem exec_reservationExpiry_of_expires {s : State} (hp : s.ageingStepPending = true) {n : AgentId}
    (hexp : s.resv[n].expires s.config.lifetime = true) : exec .reservationExpiry s = .next s.takeEpochStep := by
  have hany : (List.finRange 8).any (fun n => s.resv[n].expires s.config.lifetime) = true :=
    List.any_eq_true.2 ⟨n, List.mem_finRange n, hexp⟩
  show execReservationExpiry s = _
  rw [execReservationExpiry, if_pos (by rw [hp, hany]; rfl)]

/-- A tick of a timer clocked by epochs is the pending epoch step (R33, R155). -/
theorem tickWhere_of_epochClock {s : State} {p : Timer → Bool} (hp : s.ageingStepPending = true)
    (hrun : s.timer.run = true) (hclock : s.timer.clock = .epoch) (ht : p s.timer = true) :
    s.tickWhere p = s.takeEpochStep := by
  simp [State.tickWhere, hrun, hclock, ht, hp]

/-- The next tick brings the count to the compare (R154). -/
theorem Timer.matches_iff (t : Timer) : t.matches = true ↔ t.count.toNat + 1 = t.compare.toNat := decide_eq_true_iff

/-- A FreeRun tick at count 4095 overflows: no compare is 4096 (R154). -/
theorem Timer.overflows_of_freeRun {t : Timer} (hm : t.mode = .freeRun) (hc : t.count = 4095) : t.overflows = true := by
  have hno : t.matches = false := by
    rw [Bool.eq_false_iff, ne_eq, Timer.matches_iff, hc]
    have := t.compare.isLt
    show ¬ 4095 + 1 = _
    omega
  simp [Timer.overflows, hno, hm, hc]

/-- Settles O46: the step is parked ageing, reservation ageing and the tick, and each row's condition makes it that step. -/
theorem epochStepAgesAndTicks : Obligations.EpochStepAgesAndTicks := by
  intro s mark he hno parked out hparked hout
  have hdue : s.softResetDue mark = false := by rwa [Bool.eq_false_iff, ne_eq, softResetDue_iff]
  have hpending := ageingStepPending_of_not_due he hdue
  have hout : out = Parked.expired s.config.missTimeout := by rw [hout, Parked.expired_eq]
  have hparked : parked = s.miss.parked.map Parked.older := hparked
  subst hout hparked
  refine ⟨s.takeEpochStep, ({ s.miss with parked := s.miss.parked.map Parked.older } : MissBlock).remove
      (·.expired s.config.missTimeout), s.agedReservations, rfl, MissBlock.remove_removedFrom _ _, ?_, ?_, ?_, ?_, ?_⟩
  · intro n age hage
    have hage : age = satInc 15 s.resv[n].age := hage
    rw [agedReservations_getElem, hage]
    exact ⟨Reservation.older_of_clear _, Reservation.older_of_valid _⟩
  · intro u hu
    have hu : u = s.aged := hu
    rw [takeEpochStep_of_not_due he hdue, epochDuties_eq, hu]
  · rintro ⟨p, hmem, hexp⟩
    exact exec_missTimeout_of_expired hpending hmem hexp
  · rintro ⟨n, hvalid, hcleared⟩
    rw [agedReservations_getElem] at hcleared
    exact exec_reservationExpiry_of_expires hpending (Reservation.expires_of_cleared hvalid hcleared)
  · intro hrun hclock
    have htick {p : Timer → Bool} (ht : p s.timer = true) := tickWhere_of_epochClock hpending hrun hclock ht
    exact ⟨congrArg _ (htick rfl), fun hmatch => congrArg _ (htick ((Timer.matches_iff _).2 hmatch)),
      fun hmode hcount => congrArg _ (htick (Timer.overflows_of_freeRun hmode hcount))⟩

end Sys2Proof.Machine
end

section
/-! The decision of a request up to the lookup: Unbound and Malformed before the checks, Direct mode, the empty slot and the miss
(R31, R38 to R44, R59). -/

namespace Sys2Proof.Machine

/-! ### The order of the checks -/

/-- A request of an unbound agent ends with Unbound (R31, R40). -/
theorem decideRequest_of_unbound {s : State} {r : Request} (h : s.bindings[r.agent] = none) :
    s.decideRequest r = s.faultRequest r .unbound none := by
  simp only [State.decideRequest, h]

/-- A malformed request of a bound agent ends with Malformed (R31, R40). -/
theorem decideRequest_of_malformed {s : State} {r : Request} {c : ContextId} (h : s.bindings[r.agent] = some c)
    (hm : r.malformed = true) : s.decideRequest r = s.faultRequest r .malformed (some c) := by
  simp only [State.decideRequest, h, hm, if_true]

/-- Every other request ends as the checks of its agent's context do (R39). -/
theorem decideRequest_of_wellFormed {s : State} {r : Request} {c : ContextId} (h : s.bindings[r.agent] = some c)
    (hm : r.malformed = false) {v : Verdict}
    (hv : s.contexts[c].checks s.cache.entries r.acc.kind r.acc.addr = v) :
    s.decideRequest r = match v with
      | .fault kind _ => s.faultRequest r kind (some c)
      | .miss key => s.missRequest r c key
      | .pass bank addr hit => s.passRequest r c bank addr hit := by
  simp only [State.decideRequest, h, hm, hv, Bool.false_eq_true, if_false]
  cases v <;> rfl

/-- Settles O16: each check that ends a request with a fault ends it by `State.faultRequest`. -/
theorem failedCheckFaultsTheRequest : Obligations.FailedCheckFaultsTheRequest := by
  intro s r
  simp only [← State.faultRequest_eq]
  exact ⟨decideRequest_of_unbound, fun _ => decideRequest_of_malformed, fun _ hbound hform =>
    ⟨fun _ _ => decideRequest_of_wellFormed hbound hform, fun _ => decideRequest_of_wellFormed hbound hform,
      fun _ _ _ => decideRequest_of_wellFormed hbound hform⟩⟩

/-! ### Up to the lookup -/

/-- The DeviceSpace check fails in bank 0 from 0xF000_0000 on, for a privilege level other than 0 (R44). -/
theorem deviceSpaceFails_iff (c : Context) (bank : BitVec 4) (addr : Word) :
    c.deviceSpaceFails bank addr = true ↔ bank = 0 ∧ 0xF0000000 ≤ addr.toNat ∧ c.privilege ≠ 0 := by
  simp [Context.deviceSpaceFails, inDeviceSpace, Config.deviceSpaceBase, BitVec.le_def, and_assoc]

/-- The lookup finds nothing exactly where no Valid entry holds the key (R59). -/
theorem lookup_eq_none_iff (entries : Vector Entry 64) (k : Key) :
    lookup entries k = none ↔ ∀ i : EntryId, entries[i].state = .valid → entries[i].key ≠ k := by
  rw [lookup, findIdx_eq_none]
  simp only [Bool.and_eq_false_imp, decide_eq_true_eq, decide_eq_false_iff_not, ne_eq]

theorem checks_of_direct {c : Context} (h : c.mode = .direct) (entries : Vector Entry 64) (k : AccessKind) (addr : Word) :
    c.checks entries k addr = c.checkDirect addr := by
  simp only [Context.checks, h]

/-- The key of an address is formed by its slot's segment and its page number (R38). -/
theorem keyOf_eq (c : Context) {addr : Word} {slot : Fin 4} (hs : slot.val = addr.toNat / 0x40000000) {vpn : BitVec 18}
    (hv : vpn.toNat = addr.toNat % 0x40000000 / 4096) : c.keyOf addr = ⟨c.segs[slot], vpn⟩ := by
  simp only [Context.keyOf, slotOf_eq slot addr hs, vpnOf_eq vpn addr hv]

/-- An address in an empty slot faults (R40). -/
theorem checks_of_slotEmpty {c : Context} (h : c.mode = .translated) {addr : Word} (hs : c.segs[slotOf addr] = 0)
    (entries : Vector Entry 64) (k : AccessKind) : c.checks entries k addr = .fault .slotEmpty none := by
  simp only [Context.checks, h, hs, if_true]

/-- An address whose key no Valid entry holds misses (R41, R59). -/
theorem checks_of_lookup_none {c : Context} (h : c.mode = .translated) {addr : Word} (hs : c.segs[slotOf addr] ≠ 0)
    {entries : Vector Entry 64} (hl : lookup entries (c.keyOf addr) = none) (k : AccessKind) :
    c.checks entries k addr = .miss (c.keyOf addr) := by
  simp only [Context.checks, h, hs, hl, if_false]

/-- Settles O17, by the mode, then by the slot; the lookup finds nothing where the key is absent or AddressOnly. -/
theorem checksUpToTheLookup : Obligations.ChecksUpToTheLookup := by
  refine ⟨fun c entries k addr hmode => ?_, fun c entries k addr hmode slot hslot => ⟨fun hempty => ?_, ?_⟩⟩
  · rw [checks_of_direct hmode, Context.checkDirect]
    simp only [deviceSpaceFails_iff, true_and]
  · rw [← slotOf_eq slot addr hslot] at hempty
    exact checks_of_slotEmpty hmode hempty entries k
  · intro hseg vpn hvpn hnone
    rw [← slotOf_eq slot addr hslot] at hseg
    rw [← keyOf_eq c hslot hvpn] at hnone ⊢
    exact checks_of_lookup_none hmode hseg ((lookup_eq_none_iff entries _).2 hnone) k

end Sys2Proof.Machine
end

section
/-! The host commands on agents, BindAgent, UnbindAgent and ClearReservation: each body by its arguments (R48, R49, R102). -/

namespace Sys2Proof.Machine

/-! ### A row of a host command -/

/-- A row executes a head of its kind with its body, and completes it (R128). -/
theorem commandStep_of_body {s : State} {k : Byte} {a : Vector Word 4} (h : s.CommandAtHead k a)
    {body : Vector Word 4 → CmdResult} {u : State} {st : Status} {d0 d1 : Word} (hb : body a = ⟨u, st, d0, d1⟩) :
    (.next (s.commandStep (· == k) body) : Answer) = .next (u.afterCommand k st d0 d1) := by
  rw [commandStep_ready h, hb, if_pos (beq_self_eq_true k)]

/-! ### Bindings -/

theorem cmdBindAgent_of_out_of_range (s : State) {a : Vector Word 4} (h : 7 < a[0].toNat ∨ 15 < a[1].toNat) :
    s.cmdBindAgent a = s.fails .badArgument := by
  rcases h with h | h
  · simp only [State.cmdBindAgent, finArg_eq_none 8 _ h]
  · simp only [State.cmdBindAgent, finArg_eq_none 16 _ h]
    split
    · contradiction
    · rfl

theorem cmdBindAgent_of_bound {s : State} {a : Vector Word 4} {n : AgentId} {c b : ContextId} (hn : a[0].toNat = n.val)
    (hc : a[1].toNat = c.val) (hb : s.bindings[n] = some b) :
    s.cmdBindAgent a = ⟨s, .alreadyBound, BitVec.ofNat 32 b.val, 0⟩ := by
  simp only [State.cmdBindAgent, finArg_eq_some n hn, finArg_eq_some c hc, hb]

theorem cmdBindAgent_of_unbound {s : State} {a : Vector Word 4} {n : AgentId} {c : ContextId} (hn : a[0].toNat = n.val)
    (hc : a[1].toNat = c.val) (hb : s.bindings[n] = none) :
    s.cmdBindAgent a = ⟨{ s with bindings := s.bindings.set n (some c) }, .ok, 0, 0⟩ := by
  simp only [State.cmdBindAgent, finArg_eq_some n hn, finArg_eq_some c hc, hb]

/-- A port's tag set is empty exactly where no tag is in use (R5). -/
theorem Port.tags_eq_zero_iff (p : Port) : p.tags = 0 ↔ ∀ t : AgentTag, p.tags.getLsbD t.val = false := by
  refine ⟨fun h t => by simp [h], fun h => BitVec.eq_of_getLsbD_eq fun i hi => ?_⟩
  simpa using h ⟨i, hi⟩

theorem cmdUnbindAgent_of_busy {s : State} {a : Vector Word 4} {n : AgentId} (hn : a[0].toNat = n.val)
    (h : ∃ t : AgentTag, s.ports[n].tags.getLsbD t.val = true) :
    s.cmdUnbindAgent a = ⟨s, .agentBusy,
      BitVec.ofNat 32 ((List.finRange 4).filter fun t => s.ports[n].tags.getLsbD t.val).length, 0⟩ := by
  have hbusy : s.ports[n].tags ≠ 0 := by
    obtain ⟨t, ht⟩ := h
    intro hzero
    rw [(Port.tags_eq_zero_iff _).1 hzero t] at ht
    cases ht
  simp only [State.cmdUnbindAgent, finArg_eq_some n hn, if_pos hbusy, Port.tagCount, Port.uses,
    List.countP_eq_length_filter]

theorem cmdUnbindAgent_of_idle {s : State} {a : Vector Word 4} {n : AgentId} (hn : a[0].toNat = n.val)
    (h : ∀ t : AgentTag, s.ports[n].tags.getLsbD t.val = false) :
    s.cmdUnbindAgent a = ⟨{ s with bindings := s.bindings.set n none, resv := s.resv.set n Reservation.cleared }, .ok,
      if s.bindings[n] = none then 0 else 1, 0⟩ := by
  have hidle : ¬ s.ports[n].tags ≠ 0 := not_not_intro ((Port.tags_eq_zero_iff _).2 h)
  simp only [State.cmdUnbindAgent, finArg_eq_some n hn, if_neg hidle]
  cases s.bindings[n] <;> rfl

/-- Settles O27, each command by its arguments and the state of the agent. -/
theorem agentCommandsBindUnbindAndClear : Obligations.AgentCommandsBindUnbindAndClear := by
  refine ⟨fun s a hhead => ⟨fun hrange => ?_, fun n c hn hc => ⟨fun b hb => ?_, fun hb => ?_⟩⟩,
    fun s a hhead => ⟨fun hrange => ?_, fun n hn => ⟨fun hbusy => ?_, fun hidle => ?_⟩⟩,
    fun s a hhead => ⟨fun hrange => ?_, fun n hn => ?_⟩⟩
  · exact commandStep_of_body hhead (cmdBindAgent_of_out_of_range s hrange)
  · exact commandStep_of_body hhead (cmdBindAgent_of_bound hn hc hb)
  · exact commandStep_of_body hhead (cmdBindAgent_of_unbound hn hc hb)
  · refine commandStep_of_body hhead ?_
    simp only [State.cmdUnbindAgent, finArg_eq_none 8 _ hrange, State.fails]
  · exact commandStep_of_body hhead (cmdUnbindAgent_of_busy hn hbusy)
  · exact commandStep_of_body hhead (cmdUnbindAgent_of_idle hn hidle)
  · refine commandStep_of_body hhead ?_
    simp only [State.cmdClearReservation, finArg_eq_none 8 _ hrange, State.fails]
  · refine commandStep_of_body hhead ?_
    simp only [State.cmdClearReservation, finArg_eq_some n hn, State.clearReservation, bit_zero]

end Sys2Proof.Machine
end

section
/-! The host commands on contexts, SuspendContext, ResumeContext, WriteContext and ReadContext: the fields of R51's table, and each
body by its arguments (R50, R51, R53). -/

namespace Sys2Proof.Machine

/-! ### The fields of a context -/

/-- The value of a protection-id slot (R51). -/
def PidSlot.value (p : PidSlot) : Nat := p.pid.toNat + if p.writeDisable then 0x10000 else 0

/-- A field of R51's table by its number: the slots' segments, the protection-id slots, then the single fields. -/
theorem fieldValue_eq (x : Context) {f : Nat} (h : f ≤ 11) :
    x.fieldValue f =
      if hs : f < 4 then x.segs[f].toNat
      else if hp : f - 4 < 4 then x.pids[f - 4].value
      else if f = 8 then x.privilege.toNat
      else if f = 9 then if x.mode = .direct then 1 else 0
      else if f = 10 then if x.policy = .fault then 1 else 0
      else if x.suspended then 1 else 0 := by
  interval_cases f <;> rfl

/-- The word of a protection-id slot is its value (R51). -/
theorem PidSlot.word_eq (p : PidSlot) : p.word = BitVec.ofNat 32 p.value := by
  apply BitVec.eq_of_toNat_eq
  have hpid := p.pid.isLt
  have hfield : (field p.pid.toNat 0).toNat = p.pid.toNat := by rw [toNat_field _ _ (by omega)]; omega
  rw [PidSlot.word, toNat_or_bit _ _ _ (by decide) (by omega), hfield, BitVec.toNat_ofNat, PidSlot.value]
  split <;> omega

theorem Mode.code_eq (m : Mode) : m.code = if m = .direct then 1 else 0 := by cases m <;> rfl

theorem MissPolicy.code_eq (p : MissPolicy) : p.code = if p = .fault then 1 else 0 := by cases p <;> rfl

theorem bit_zero_eq_ofNat (b : Bool) : bit b 0 = BitVec.ofNat 32 (if b then 1 else 0) := by cases b <;> rfl

/-- A bit that is not set adds its power of 2 (R51 field 12). -/
theorem toNat_or_agentBit {m : BitVec 8} {n : AgentId} (h : m.getLsbD n.val = false) :
    (m ||| 1#8 <<< n.val).toNat = m.toNat + 2 ^ n.val := by
  have hdisjoint : m &&& BitVec.twoPow 8 n.val = 0#8 := by rw [BitVec.and_twoPow, h]; rfl
  rw [← BitVec.twoPow_eq, ← BitVec.add_eq_or_of_and_eq_zero _ _ hdisjoint, BitVec.toNat_add_of_and_eq_zero hdisjoint,
    BitVec.toNat_twoPow_of_lt n.isLt]

/-- A bit of another agent is as it was. -/
theorem getLsbD_or_agentBit_of_ne (m : BitVec 8) {n k : AgentId} (h : k ≠ n) :
    (m ||| 1#8 <<< n.val).getLsbD k.val = m.getLsbD k.val := by
  have hne : n.val ≠ k.val := fun e => h (Fin.ext e.symm)
  rw [← BitVec.twoPow_eq, BitVec.getLsbD_or, BitVec.getLsbD_twoPow, decide_eq_false hne, Bool.and_false, Bool.or_false]

/-- The bits of distinct agents, none of them set before, add the sum of their powers of 2. -/
theorem toNat_foldl_agentBits (p : AgentId → Prop) [DecidablePred p] (l : List AgentId) (m : BitVec 8) (hl : l.Nodup)
    (hm : ∀ n ∈ l, m.getLsbD n.val = false) :
    (l.foldl (fun m n => if p n then m ||| 1#8 <<< n.val else m) m).toNat =
      m.toNat + (l.map fun n => if p n then 2 ^ n.val else 0).sum := by
  induction l generalizing m with
  | nil => rfl
  | cons n l ih =>
    obtain ⟨hn, hl⟩ := List.nodup_cons.1 hl
    obtain ⟨hmn, hml⟩ := List.forall_mem_cons.1 hm
    rw [List.foldl_cons, List.map_cons, List.sum_cons]
    by_cases hp : p n
    · have hdisjoint : ∀ k ∈ l, (m ||| 1#8 <<< n.val).getLsbD k.val = false := fun k hk => by
        rw [getLsbD_or_agentBit_of_ne m (ne_of_mem_of_not_mem hk hn), hml k hk]
      rw [if_pos hp, if_pos hp, ih _ hl hdisjoint, toNat_or_agentBit hmn, Nat.add_assoc]
    · rw [if_neg hp, if_neg hp, Nat.zero_add, ih m hl hml]

/-- The mask of the agents bound to a context is the value of its field 12 (R51). -/
theorem toNat_boundMask (s : State) (c : ContextId) : (s.boundMask c).toNat = s.fieldValue c 12 := by
  rw [State.boundMask, toNat_foldl_agentBits _ _ _ (List.nodup_finRange 8) (by simp), State.fieldValue, if_pos rfl]
  exact Nat.zero_add _

/-- A field of a context as the commands answer it: its value as a word (R51, R53). -/
theorem contextField_eq_some (s : State) (c : ContextId) {f : Nat} (h : f ≤ 12) :
    s.contextField c f = some (BitVec.ofNat 32 (s.fieldValue c f)) := by
  have hwidth {w : Nat} (b : BitVec w) : some (b.setWidth 32) = some (BitVec.ofNat 32 b.toNat) := by
    rw [BitVec.ofNat_toNat]
  match f, h with
  | 0, _ | 1, _ | 2, _ | 3, _ | 8, _ => exact hwidth _
  | 4, _ | 5, _ | 6, _ | 7, _ => exact congrArg some (PidSlot.word_eq _)
  | 9, _ => exact congrArg (fun n => some (BitVec.ofNat 32 n)) (Mode.code_eq _)
  | 10, _ => exact congrArg (fun n => some (BitVec.ofNat 32 n)) (MissPolicy.code_eq _)
  | 11, _ => exact congrArg some (bit_zero_eq_ofNat _)
  | 12, _ => rw [← toNat_boundMask]; exact hwidth _
  | _ + 13, h => omega

theorem contextField_eq_none (s : State) (c : ContextId) {f : Nat} (h : 12 < f) : s.contextField c f = none := by
  obtain ⟨k, rfl⟩ : ∃ k, f = k + 13 := ⟨f - 13, by omega⟩
  rfl

/-! ### Writing a field -/

/-- `y` is `x` with the value `v` in field `f` and every other field, 0 to 11, as it was. -/
def Context.FieldSet (x y : Context) (f v : Nat) : Prop :=
  ∀ g, g ≤ 11 → y.fieldValue g = if g = f then v else x.fieldValue g

theorem fieldSet_segs (x : Context) {f : Nat} (hf : f ≤ 3) (v : BitVec 16) :
    x.FieldSet { x with segs := x.segs.setIfInBounds f v } f v.toNat := by
  intro g hg
  rw [fieldValue_eq _ hg, fieldValue_eq _ hg]
  by_cases hs : g < 4
  · simp only [dif_pos hs, Vector.getElem_setIfInBounds hs, eq_comm (a := f)]
    split <;> rfl
  · have hne : g ≠ f := by omega
    rw [dif_neg hs, dif_neg hs, if_neg hne]

theorem fieldSet_pids (x : Context) {f : Nat} (hf : ¬ f ≤ 3) (hf' : f ≤ 7) (p : PidSlot) :
    x.FieldSet { x with pids := x.pids.setIfInBounds (f - 4) p } f p.value := by
  intro g hg
  rw [fieldValue_eq _ hg, fieldValue_eq _ hg]
  by_cases hp : ¬ g < 4 ∧ g - 4 < 4
  · have hiff : f - 4 = g - 4 ↔ g = f := by omega
    simp only [dif_neg hp.1, dif_pos hp.2, Vector.getElem_setIfInBounds hp.2, hiff]
    split <;> rfl
  · have hne : g ≠ f := by omega
    rw [if_neg hne]
    by_cases hs : g < 4
    · rw [dif_pos hs, dif_pos hs]
    · have hp' : ¬ g - 4 < 4 := fun h => hp ⟨hs, h⟩
      rw [dif_neg hs, dif_neg hs, dif_neg hp', dif_neg hp']

theorem fieldSet_privilege (x : Context) (v : BitVec 2) : x.FieldSet { x with privilege := v } 8 v.toNat := by
  intro g hg
  interval_cases g <;> rfl

theorem fieldSet_mode (x : Context) (m : Mode) : x.FieldSet { x with mode := m } 9 (if m = .direct then 1 else 0) := by
  intro g hg
  interval_cases g <;> rfl

theorem fieldSet_policy (x : Context) (p : MissPolicy) :
    x.FieldSet { x with policy := p } 10 (if p = .fault then 1 else 0) := by
  intro g hg
  interval_cases g <;> rfl

/-- A protection-id slot written from a word in range has the word's value (R51). -/
theorem PidSlot.value_ofWord {v : Word} (h : v.toNat ≤ 0x1FFFF) : (PidSlot.ofWord v).value = v.toNat := by
  have hbit : v.getLsbD 16 = decide (v.toNat / 2 ^ 16 % 2 = 1) := Nat.testBit_eq_decide_div_mod_eq
  simp only [PidSlot.value, PidSlot.ofWord, BitVec.toNat_setWidth, hbit, decide_eq_true_eq]
  split <;> omega

/-- A value of at most 1 is the word 0 or the word 1, the codes of the mode and of the miss policy (R51). -/
theorem word_eq_zero_or_one {v : Word} (h : v.toNat ≤ 1) : v = 0 ∨ v = 1 := by
  rw [← BitVec.toNat_inj, ← BitVec.toNat_inj]
  show v.toNat = 0 ∨ v.toNat = 1
  omega

/-- A write of a value in range changes its field alone (R51). -/
theorem writeField_of_in_range (x : Context) {f : Nat} {v : Word} (hf : f ≤ 10) (hv : v.toNat ≤ fieldLimit f) :
    ∃ y, x.writeField f v = some y ∧ x.FieldSet y f v.toNat := by
  unfold fieldLimit at hv
  unfold Context.writeField
  by_cases hseg : f ≤ 3
  · rw [if_pos hseg] at hv
    have hfits : (v.setWidth 16).toNat = v.toNat := by rw [BitVec.toNat_setWidth]; omega
    exact ⟨_, by rw [if_pos hseg, if_pos hv], hfits ▸ fieldSet_segs x hseg _⟩
  rw [if_neg hseg] at hv ⊢
  by_cases hpid : f ≤ 7
  · rw [if_pos hpid] at hv
    exact ⟨_, by rw [if_pos hpid, if_pos hv], PidSlot.value_ofWord hv ▸ fieldSet_pids x hseg hpid _⟩
  rw [if_neg hpid] at hv ⊢
  obtain rfl | rfl | rfl : f = 8 ∨ f = 9 ∨ f = 10 := by omega
  · have hv : v.toNat ≤ 3 := hv
    have hfits : (v.setWidth 2).toNat = v.toNat := by rw [BitVec.toNat_setWidth]; omega
    exact ⟨_, if_pos hv, hfits ▸ fieldSet_privilege x _⟩
  · obtain rfl | rfl := word_eq_zero_or_one hv
    · exact ⟨_, rfl, fieldSet_mode x .translated⟩
    · exact ⟨_, rfl, fieldSet_mode x .direct⟩
  · obtain rfl | rfl := word_eq_zero_or_one hv
    · exact ⟨_, rfl, fieldSet_policy x .park⟩
    · exact ⟨_, rfl, fieldSet_policy x .fault⟩

/-- Field 11 is not writable, and a value above its field's limit is refused (R51). -/
theorem writeField_of_out_of_range (x : Context) {f : Nat} {v : Word} (h : 10 < f ∨ fieldLimit f < v.toNat) :
    x.writeField f v = none := by
  unfold fieldLimit at h
  unfold Context.writeField
  by_cases hseg : f ≤ 3
  · rw [if_pos hseg] at h ⊢
    exact if_neg (by omega)
  rw [if_neg hseg] at h ⊢
  by_cases hpid : f ≤ 7
  · rw [if_pos hpid] at h ⊢
    exact if_neg (by omega)
  rw [if_neg hpid] at h ⊢
  by_cases hpriv : f = 8
  · rw [if_pos hpriv] at h ⊢
    exact if_neg (by omega)
  rw [if_neg hpriv] at h ⊢
  by_cases hcode : f = 9 ∨ f = 10
  · have hv : 1 < v.toNat := by omega
    have hzero : v ≠ 0 := fun e => by subst e; exact absurd hv (by decide)
    have hone : v ≠ 1 := fun e => by subst e; exact absurd hv (by decide)
    simp only [hzero, hone, if_false, ite_self]
  · rw [if_neg (fun e => hcode (.inl e)), if_neg (fun e => hcode (.inr e))]

/-! ### The bodies of the commands -/

theorem cmdSetSuspended_of_out_of_range (s : State) {a : Vector Word 4} (h : 15 < a[0].toNat) (v : Bool) :
    s.cmdSetSuspended a v = s.fails .badArgument := by
  simp only [State.cmdSetSuspended, finArg_eq_none 16 _ h]

theorem cmdSetSuspended_eq (s : State) {a : Vector Word 4} {c : ContextId} (h : a[0].toNat = c.val) (v : Bool) :
    s.cmdSetSuspended a v = ⟨{ s with contexts := s.contexts.set c { s.contexts[c] with suspended := v } }, .ok,
      if s.contexts[c].suspended then 1 else 0, 0⟩ := by
  simp only [State.cmdSetSuspended, finArg_eq_some c h, bit_zero, State.setContext]

theorem cmdWriteContext_of_out_of_range (s : State) {a : Vector Word 4}
    (h : 15 < a[0].toNat ∨ 10 < a[1].toNat ∨ fieldLimit a[1].toNat < a[2].toNat) :
    s.cmdWriteContext a = s.fails .badArgument := by
  unfold State.cmdWriteContext
  rcases h with h | h
  · rw [finArg_eq_none 16 _ h]
  · split
    · rw [writeField_of_out_of_range _ h]
    · rfl

theorem cmdWriteContext_of_in_range (s : State) {a : Vector Word 4} {c : ContextId} (hc : a[0].toNat = c.val)
    (hf : a[1].toNat ≤ 10) {x : Context} (hx : s.contexts[c].writeField a[1].toNat a[2] = some x) :
    s.cmdWriteContext a = ⟨{ s with contexts := s.contexts.set c x }, .ok,
      BitVec.ofNat 32 (s.contexts[c].fieldValue a[1].toNat), 0⟩ := by
  have hfield : s.fieldValue c a[1].toNat = s.contexts[c].fieldValue a[1].toNat := if_neg (by omega)
  simp only [State.cmdWriteContext, finArg_eq_some c hc, hx, contextField_eq_some s c (hf.trans (by decide)), hfield,
    State.setContext, Option.getD_some]

theorem cmdReadContext_of_out_of_range (s : State) {a : Vector Word 4} (h : 15 < a[0].toNat ∨ 12 < a[1].toNat) :
    s.cmdReadContext a = s.fails .badArgument := by
  unfold State.cmdReadContext
  rcases h with h | h
  · rw [finArg_eq_none 16 _ h]
  · split
    · rw [contextField_eq_none _ _ h]
    · rfl

theorem cmdReadContext_of_in_range (s : State) {a : Vector Word 4} {c : ContextId} (hc : a[0].toNat = c.val)
    (hf : a[1].toNat ≤ 12) :
    s.cmdReadContext a = ⟨s, .ok, BitVec.ofNat 32 (s.fieldValue c a[1].toNat), 0⟩ := by
  simp only [State.cmdReadContext, finArg_eq_some c hc, contextField_eq_some s c hf]

/-- Settles O28, each command by its arguments. -/
theorem contextCommandsChangeOneField : Obligations.ContextCommandsChangeOneField := by
  refine ⟨fun s a => ⟨fun hhead => ⟨fun hrange => ?_, fun c hc => ?_⟩, fun hhead => ⟨fun hrange => ?_, fun c hc => ?_⟩⟩,
    fun s a hhead => ⟨fun hrange => ?_, fun c hc hf hv => ?_⟩, fun s a hhead => ⟨fun hrange => ?_, fun c hc hf => ?_⟩⟩
  · exact commandStep_of_body hhead (cmdSetSuspended_of_out_of_range s hrange true)
  · exact commandStep_of_body hhead (cmdSetSuspended_eq s hc true)
  · exact commandStep_of_body hhead (cmdSetSuspended_of_out_of_range s hrange false)
  · exact commandStep_of_body hhead (cmdSetSuspended_eq s hc false)
  · exact commandStep_of_body hhead (cmdWriteContext_of_out_of_range s hrange)
  · obtain ⟨x, hx, hset⟩ := writeField_of_in_range s.contexts[c] hf hv
    refine ⟨x, (hset _ (hf.trans (by decide))).trans (if_pos rfl), fun f hf' hne => (hset f hf').trans (if_neg hne), ?_⟩
    exact commandStep_of_body hhead (cmdWriteContext_of_in_range s hc hf hx)
  · exact commandStep_of_body hhead (cmdReadContext_of_out_of_range s hrange)
  · exact commandStep_of_body hhead (cmdReadContext_of_in_range s hc hf)

end Sys2Proof.Machine
end

section
/-! What changes the translation state: every row but a host command step and power-on reset keeps the contexts, the bindings and
the cache, but for the use flags of its entries (R35, R36, R56, R70). -/

namespace Sys2Proof.Machine

/-! ### States with one translation -/

/-- `t` differs from `s` in no context, no binding and nothing of the translation cache but the Referenced and Modified flags. -/
structure State.SameTranslation (s t : State) : Prop where
  contexts : t.contexts = s.contexts
  bindings : t.bindings = s.bindings
  pointer : t.cache.pointer = s.cache.pointer
  entries : ∀ i : EntryId, ∃ ref mod, t.cache.entries[i] = { s.cache.entries[i] with referenced := ref, modified := mod }

theorem State.SameTranslation.of_eq {s t : State} (hcontexts : t.contexts = s.contexts) (hbindings : t.bindings = s.bindings)
    (hcache : t.cache = s.cache) : s.SameTranslation t :=
  ⟨hcontexts, hbindings, by rw [hcache], fun i => ⟨_, _, by rw [hcache]⟩⟩

theorem State.SameTranslation.refl (s : State) : s.SameTranslation s := .of_eq rfl rfl rfl

theorem State.SameTranslation.trans {s t u : State} (h : s.SameTranslation t) (h' : t.SameTranslation u) :
    s.SameTranslation u where
  contexts := h'.contexts.trans h.contexts
  bindings := h'.bindings.trans h.bindings
  pointer := h'.pointer.trans h.pointer
  entries i := by
    obtain ⟨_, _, ht⟩ := h.entries i
    obtain ⟨ref, mod, hu⟩ := h'.entries i
    exact ⟨ref, mod, by rw [hu, ht]⟩

/-- A change that leaves contexts, bindings and cache, after one that keeps the translation. -/
theorem State.SameTranslation.then_eq {s t u : State} (h : s.SameTranslation t) (hcontexts : u.contexts = t.contexts)
    (hbindings : u.bindings = t.bindings) (hcache : u.cache = t.cache) : s.SameTranslation u :=
  h.trans (.of_eq hcontexts hbindings hcache)

/-- A change that keeps the translation, after one that leaves contexts, bindings and cache. -/
theorem State.SameTranslation.after_eq {s t u : State} (h : t.SameTranslation u) (hcontexts : t.contexts = s.contexts)
    (hbindings : t.bindings = s.bindings) (hcache : t.cache = s.cache) : s.SameTranslation u :=
  State.SameTranslation.trans (.of_eq hcontexts hbindings hcache) h

theorem State.SameTranslation.of_next {s t u : State} (h : (.next u : Answer) = .next t) (hu : s.SameTranslation u) :
    s.SameTranslation t := by
  cases h; exact hu

theorem State.SameTranslation.serve {s t : State} (h : s.SameTranslation t) : s.SameTranslation t.serveBacklog :=
  h.then_eq rfl rfl rfl

/-! ### Requests -/

theorem sameTranslation_faultRequest (s : State) (r : Request) (k : FaultKind) (c : Option ContextId) :
    s.SameTranslation (s.faultRequest r k c) := .of_eq (by simp) (by simp) (by simp)

theorem sameTranslation_missRequest (s : State) (r : Request) (c : ContextId) (k : Key) :
    s.SameTranslation (s.missRequest r c k) := by
  unfold State.missRequest
  split
  · split
    · exact sameTranslation_faultRequest ..
    · exact .of_eq rfl rfl rfl
  · exact (sameTranslation_faultRequest s r .miss (some c)).then_eq (by simp) (by simp) (by simp)

/-- Marking an entry changes its use flags alone (R63). -/
theorem sameTranslation_markEntry (s : State) (hit : Option EntryId) {f : Entry → Entry}
    (hf : ∀ e, ∃ ref mod, f e = { e with referenced := ref, modified := mod }) : s.SameTranslation (s.markEntry hit f) := by
  cases hit with
  | none => exact .refl s
  | some i =>
    refine ⟨rfl, rfl, rfl, fun j => ?_⟩
    show ∃ ref mod, (s.cache.entries.set i (f s.cache.entries[i]))[j] = _
    rw [set_getElem_fin]
    split
    · rename_i hji; subst hji; exact hf _
    · exact ⟨_, _, rfl⟩

/-- The issue of a request with the marking of its entry (R63, R107, R108). -/
theorem sameTranslation_issue (s : State) (r : Request) (c : ContextId) (b : BitVec 4) (a : Word) (hit : Option EntryId)
    (k : AccessKind) : s.SameTranslation ((s.issue r c b a).markEntry hit (·.markIssued k)) :=
  (sameTranslation_markEntry (s.issue r c b a) hit fun _ => ⟨_, _, rfl⟩).after_eq (by simp) (by simp) (by simp)

theorem sameTranslation_condFail (s : State) (n : AgentId) (t : AgentTag) (hit : Option EntryId) :
    s.SameTranslation ((s.respond n t .condFail).markEntry hit (·.markCondFail)) :=
  (sameTranslation_markEntry (s.respond n t .condFail) hit fun _ => ⟨_, _, rfl⟩).after_eq (by simp) (by simp) (by simp)

/-- A request that passes its checks marks its entry; what else it does lies in the system port and the reservations. -/
theorem sameTranslation_passRequest (s : State) (r : Request) (c : ContextId) (b : BitVec 4) (a : Word)
    (hit : Option EntryId) : s.SameTranslation (s.passRequest r c b a hit) := by
  unfold State.passRequest
  split
  case h_1 | h_2 => exact sameTranslation_issue ..
  case h_3 | h_4 => exact (sameTranslation_issue ..).then_eq rfl rfl rfl
  case h_5 =>
    split
    · exact (sameTranslation_issue ..).then_eq rfl rfl rfl
    · exact (sameTranslation_condFail ..).then_eq rfl rfl rfl

theorem sameTranslation_decideRequest (s : State) (r : Request) : s.SameTranslation (s.decideRequest r) := by
  unfold State.decideRequest
  split
  · exact sameTranslation_faultRequest ..
  · split
    · exact sameTranslation_faultRequest ..
    · split
      · exact sameTranslation_faultRequest ..
      · exact sameTranslation_missRequest ..
      · exact sameTranslation_passRequest ..

theorem sameTranslation_decideItem (s : State) (n : AgentId) (it : Item) : s.SameTranslation (s.decideItem n it) := by
  rcases decideItem_cases s n it with ⟨-, q, a, h⟩ | ⟨-, code, h⟩ | ⟨-, -, r, -, -, h⟩ <;> rw [h]
  · exact .of_eq (by simp) (by simp) (by simp)
  · exact .of_eq (by simp) (by simp) (by simp)
  · exact sameTranslation_decideRequest ..

/-! ### Steps of the decision point -/

theorem sameTranslation_newItem (s : State) (n : AgentId) (it : Item) (rest : List Item) :
    s.SameTranslation ((s.afterTaking n rest).decideItem n it) :=
  (sameTranslation_decideItem (s.afterTaking n rest) n it).after_eq rfl rfl rfl

theorem sameTranslation_takeNewItem (s : State) (p : Item → Bool) : s.SameTranslation (s.takeNewItem p) := by
  rcases takeNewItem_cases s p with h | ⟨n, it, rest, -, -, h⟩ <;> rw [h]
  · exact .refl s
  · exact (sameTranslation_newItem s n it rest).serve

theorem sameTranslation_replayDecided (s : State) : s.SameTranslation s.replayDecided := by
  unfold State.replayDecided
  split
  · exact .refl s
  · rename_i r rest _
    exact (sameTranslation_decideRequest (s.replayTaken rest) r.request).after_eq rfl rfl rfl

theorem sameTranslation_ageParked (s : State) : s.SameTranslation s.ageParked :=
  .of_eq (foldl_keeps _ State.contexts (fun _ _ => State.finishParked_contexts ..) _ _)
    (foldl_keeps _ State.bindings (fun _ _ => State.finishParked_bindings ..) _ _)
    (foldl_keeps _ State.cache (fun _ _ => State.finishParked_cache ..) _ _)

theorem sameTranslation_epochDuties (s : State) : s.SameTranslation s.epochDuties :=
  (sameTranslation_ageParked s).then_eq (by simp [State.epochDuties]) (by simp [State.epochDuties])
    (by simp [State.epochDuties])

theorem sameTranslation_takeEpochStep (s : State) : s.SameTranslation s.takeEpochStep := by
  unfold State.takeEpochStep State.epochStep
  split
  · split
    · exact .of_eq rfl rfl rfl
    · exact (sameTranslation_epochDuties s.dropEpoch).serve.after_eq rfl rfl rfl
  · exact .refl s

theorem sameTranslation_tickWhere (s : State) (p : Timer → Bool) : s.SameTranslation (s.tickWhere p) := by
  unfold State.tickWhere
  split_ifs
  · exact sameTranslation_takeEpochStep s
  · exact .refl s
  · exact .of_eq rfl rfl rfl
  · exact .refl s

/-- The ready step, taken as BACKLOG_SERVICE, keeps the translation where it is not a host command step (R22, R86). -/
theorem sameTranslation_backlogService {s t : State} (h : execBacklogService s = .next t)
    (hno : ∀ k a, ¬ s.CommandAtHead k a) : s.SameTranslation t := by
  rcases execBacklogService_cases s with hsame | ⟨u, hu, -, hserve⟩
  · rw [hsame] at h; exact .of_next h (.refl s)
  · rw [hserve] at h
    refine .of_next h (State.SameTranslation.serve ?_)
    unfold State.beforeService at hu
    split at hu
    case h_1 =>
      split at hu <;> cases hu
      exact (sameTranslation_epochDuties s.dropEpoch).after_eq rfl rfl rfl
    case h_3 => cases hu; exact sameTranslation_replayDecided s
    case h_4 hnext =>
      obtain ⟨e, he, -⟩ := Option.map_eq_some_iff.1 hu
      exact absurd ⟨(commandReady_of_nextStep hnext).1, he⟩ (hno e.kind e.args)
    case h_5 n hnext =>
      obtain ⟨it, rest, hserves⟩ := servesItem_of_nextStep hnext
      cases hu
      unfold State.newItemDecided
      rw [hserves.2.2]
      exact sameTranslation_newItem s n it rest
    all_goals cases hu

/-! ### The links and the host port -/

theorem sameTranslation_takeIn (s : State) (n : AgentId) (m : Message) : s.SameTranslation (s.takeIn n m) := by
  unfold State.takeIn
  split
  · exact .of_eq (by simp) (by simp) (by simp)
  · exact .refl s

theorem sameTranslation_assertPortReset (s : State) (n : AgentId) : s.SameTranslation (s.assertPortReset n) := by
  unfold State.assertPortReset
  split
  · exact .refl s
  · exact .of_eq rfl rfl rfl

theorem sameTranslation_sendDownstream (s : State) : s.SameTranslation s.sendDownstream := by
  unfold State.sendDownstream
  split
  · exact .refl s
  · exact .of_eq rfl rfl rfl

theorem sameTranslation_relay (s : State) (r : OutRecord) (st : MemStatus) (d : List Byte) :
    s.SameTranslation (s.relay r st d) := by
  cases st <;> exact .of_eq (by simp [State.relay]) (by simp [State.relay]) (by simp [State.relay])

theorem sameTranslation_downResponse (s : State) (g : GatewayTag) (st : MemStatus) (d : List Byte) :
    s.SameTranslation (s.downResponse g st d) := by
  rcases downResponse_cases s g st d with h | ⟨r, -, -, ⟨-, h⟩ | ⟨-, h⟩⟩ <;> rw [h]
  · exact .of_eq rfl rfl rfl
  · exact .of_eq rfl rfl rfl
  · exact (sameTranslation_relay s r st d).then_eq rfl rfl rfl

theorem sameTranslation_issueCommand (s : State) (v : Word) : s.SameTranslation (s.issueCommand v) := by
  unfold State.issueCommand
  split
  · exact .of_eq (by simp) (by simp) (by simp)
  · exact .of_eq (by simp) (by simp) (by simp)

theorem sameTranslation_missPop (s : State) : s.SameTranslation s.missPop := by
  unfold State.missPop
  split
  · exact .of_eq rfl rfl rfl
  · exact .refl s

theorem sameTranslation_writeEffect (s : State) (o : BitVec 8) (v : Word) : s.SameTranslation (s.writeEffect o v) := by
  unfold State.writeEffect
  split
  case h_6 => exact sameTranslation_issueCommand s v
  case h_9 => exact sameTranslation_missPop s
  all_goals exact .of_eq rfl rfl rfl

theorem sameTranslation_hostRead (s : State) (o : BitVec 8) : s.SameTranslation (s.hostRead o) := by
  unfold State.hostRead
  split
  all_goals exact .of_eq rfl rfl rfl

theorem sameTranslation_hostAccess (s : State) (a : HostAccess) : s.SameTranslation (s.hostAccess a) := by
  unfold State.hostAccess
  split
  · split
    · exact (sameTranslation_writeEffect s _ _).then_eq rfl rfl rfl
    · exact sameTranslation_hostRead ..
  · exact .of_eq rfl rfl rfl

/-! ### Every row -/

theorem exec_sameTranslation {c : Instr} {s t : State} (h : exec c s = .next t) (hhost : c ∉ hostCommandSteps)
    (hpower : ∀ pins, c ≠ .powerOnReset pins) (hbacklog : c = .backlogService → ∀ k a, ¬ s.CommandAtHead k a) :
    s.SameTranslation t := by
  cases c with
  | powerOnReset pins => exact absurd rfl (hpower pins)
  | insertAddress | insertRights | purgeEntry | purgeSegment | purgeAll | readEntry | probe | bindAgent | unbindAgent
  | writeContext | readContext | suspendContext | resumeContext | abortParked | clearReservation | enterStandby
  | armSoftReset | badCommand => exact absurd (by decide) hhost
  | admission n m =>
    have hadm : (if m.linkOk then .next (s.takeIn n m) else .fault .linkBroken : Answer) = .next t := h
    split at hadm
    · exact .of_next hadm (sameTranslation_takeIn s n m)
    · cases hadm
  | agrstNAssertion n => exact .of_next h (sameTranslation_assertPortReset s n)
  | portResetStep =>
    refine .of_next h ?_
    split
    · exact .of_eq rfl rfl rfl
    · exact .refl s
  | newAgentItemStep | signal | tagInUse => exact .of_next h (sameTranslation_takeNewItem s _)
  | replayStep =>
    refine .of_next h ?_
    split
    · exact (sameTranslation_replayDecided s).serve
    · exact .refl s
  | downstreamRequest => exact .of_next h (sameTranslation_sendDownstream s)
  | downstreamResponse g st d => exact .of_next h (sameTranslation_downResponse s g st d)
  | epochStep => exact .of_next h (sameTranslation_takeEpochStep s)
  | missTimeout | reservationExpiry =>
    refine .of_next h ?_
    split
    · exact sameTranslation_takeEpochStep s
    · exact .refl s
  | backlogService => exact sameTranslation_backlogService h (hbacklog rfl)
  | cmdIssue v => exact .of_next h ((sameTranslation_issueCommand s v).then_eq rfl rfl rfl)
  | missPop v => exact .of_next h ((sameTranslation_missPop s).then_eq rfl rfl rfl)
  | timerTick | intervalMatch | timerOverflow => exact .of_next h (sameTranslation_tickWhere s _)
  | srstNHigh =>
    refine .of_next h ?_
    split
    · exact .of_eq rfl rfl rfl
    · exact .refl s
  | hostAccessError a => exact .of_next h (sameTranslation_hostAccess s a)
  | registerWrite o v => exact .of_next h (sameTranslation_hostAccess s _)
  | agrstNRelease | epochEvent | resultPop | faultPop | cmdDroppedClear | eventRaise | eventClear | eventPermit
  | deliverEnable | claim | complete | serviceStatusClear | extEventConfig | evPinChange | filteredLevelChange
  | signalCodeRead | epochStatusRead | deviceConfig | timerControl | resetAction | timerCompare | timerStatusClear
  | srstNLow | portReady => exact .of_next h (.of_eq rfl rfl rfl)

/-- Settles O58, by the rows: all that a row other than the excepted ones changes of the translation is a use flag. -/
theorem onlyCommandsChangeTranslation : Obligations.OnlyCommandsChangeTranslation := by
  intro c s t h hhost hpower hbacklog
  obtain ⟨hcontexts, hbindings, hpointer, hentries⟩ := exec_sameTranslation h hhost hpower hbacklog
  exact ⟨hcontexts, hbindings, hpointer, hentries⟩

end Sys2Proof.Machine
end

section
/-! What a step of the machine can do to the entries of the translation cache and to the keys parked, said once: every step
is a chain of cache effects (`step_cacheEffects`), so a property that each of them keeps is kept by every step
(`step_cache_induction`). -/

namespace Sys2Proof.Machine

/-! ### Cache effects -/

/-- Every key parked in `t` is parked in `s`. -/
def State.ParkedFrom (s t : State) : Prop := ∀ p ∈ t.miss.parked, ∃ q ∈ s.miss.parked, q.item.key = p.item.key

/-- One thing that the machine can do within a step to the cache entries and the parked keys. -/
inductive CacheEffect (s t : State) : Prop
  /-- No entry changes and no key is parked. -/
  | frame (entries : t.cache.entries = s.cache.entries) (parked : s.ParkedFrom t)
  /-- A request sets use flags of the Valid entry it went through (R63). -/
  | marked (i : EntryId) (ref mod : Bool) (valid : s.cache.entries[i].state = .valid)
      (entries : t.cache.entries =
        s.cache.entries.set i { s.cache.entries[i] with referenced := ref, modified := mod }) (parked : s.ParkedFrom t)
  /-- A request is parked under a key that no Valid entry holds (R59, R81). -/
  | parks (r : MissItem) (absent : ∀ i : EntryId, s.cache.entries[i].state = .valid → s.cache.entries[i].key ≠ r.key)
      (entries : t.cache.entries = s.cache.entries) (parked : t.miss.parked = insertByOrder ⟨r, 0⟩ s.miss.parked)
  /-- InsertAddress writes the entry of its key, or any entry where none has the key (R67, R68). -/
  | addressed (i : EntryId) (k : Key) (bank : BitVec 4) (frame : BitVec 20) (pin : Bool) (seg : k.seg ≠ 0)
      (own : s.cache.entries[i].state ≠ .empty ∧ s.cache.entries[i].key = k ∨ s.KeyAbsent k)
      (entries : t.cache.entries = s.cache.entries.set i (Entry.addressed k bank frame pin)) (parked : s.ParkedFrom t)
  /-- InsertRights makes an entry Valid and leaves no record under its key (R69). -/
  | rights (i : EntryId) (pt : PageType) (rl wl : BitVec 2) (pid : BitVec 16)
      (present : s.cache.entries[i].state ≠ .empty)
      (entries : t.cache.entries = s.cache.entries.set i (s.cache.entries[i].withRights pt rl wl pid))
      (parked : s.ParkedFrom t) (released : ∀ p ∈ t.miss.parked, p.item.key ≠ s.cache.entries[i].key)
  /-- The entries that satisfy `p` become Empty (R71 to R73, R158). -/
  | emptied (p : EntryId → Bool)
      (entries : ∀ i : EntryId, t.cache.entries[i] = if p i then Entry.cleared else s.cache.entries[i])
      (parked : s.ParkedFrom t)

/-- A chain of cache effects leads from one state to the other. -/
abbrev CacheEffects : State → State → Prop := Relation.ReflTransGen CacheEffect

theorem State.ParkedFrom.of_eq {s t : State} (h : t.miss.parked = s.miss.parked) : s.ParkedFrom t :=
  fun p hp => ⟨p, h ▸ hp, rfl⟩

theorem State.ParkedFrom.of_remove {s t : State} {p : Parked → Bool} (h : t.miss = s.miss.remove p) : s.ParkedFrom t := by
  intro q hq
  rw [h, (MissBlock.remove_removedFrom s.miss p).1] at hq
  exact ⟨q, List.mem_of_mem_filter hq, rfl⟩

/-- A change that leaves the cache and the parked list. -/
theorem CacheEffects.of_eq {s t : State} (hcache : t.cache = s.cache) (hparked : t.miss.parked = s.miss.parked) :
    CacheEffects s t := .single (.frame (by rw [hcache]) (.of_eq hparked))

/-- A change that leaves the cache and removes parked records. -/
theorem CacheEffects.of_remove {s t : State} {p : Parked → Bool} (hcache : t.cache = s.cache)
    (hmiss : t.miss = s.miss.remove p) : CacheEffects s t := .single (.frame (by rw [hcache]) (.of_remove hmiss))

/-- Cache effects followed by a change that leaves the cache and the parked list. -/
theorem CacheEffects.then_eq {s t u : State} (h : CacheEffects s t) (hcache : u.cache = t.cache)
    (hparked : u.miss.parked = t.miss.parked) : CacheEffects s u := h.trans (CacheEffects.of_eq hcache hparked)

/-- Cache effects after a change that leaves the cache and the parked list. -/
theorem CacheEffects.after_eq {s t u : State} (h : CacheEffects t u) (hcache : t.cache = s.cache)
    (hparked : t.miss.parked = s.miss.parked) : CacheEffects s u := (CacheEffects.of_eq hcache hparked).trans h

theorem CacheEffects.of_next {s t u : State} (h : (.next u : Answer) = .next t) (hu : CacheEffects s u) :
    CacheEffects s t := by
  cases h; exact hu

theorem serveBacklog_parked (s : State) : s.serveBacklog.miss.parked = s.miss.parked := serve_parked ..

theorem CacheEffects.serve {s t : State} (h : CacheEffects s t) : CacheEffects s t.serveBacklog :=
  h.then_eq rfl (serveBacklog_parked t)

/-! ### Requests -/

/-- The lookup finds a Valid entry of the key (R59). -/
theorem valid_of_lookup {entries : Vector Entry 64} {k : Key} {i : EntryId} (h : lookup entries k = some i) :
    entries[i].state = .valid := by
  have hfound := ((findIdx_eq_some ..).1 h).1
  simp only [Bool.and_eq_true, decide_eq_true_eq] at hfound
  exact hfound.1

/-- The hit that a passed check names is the entry checked. -/
theorem hit_of_checkHit_pass {c : Context} {e : Entry} {i j : EntryId} {k : AccessKind} {a : Word} {b : BitVec 4} {p : Word}
    (h : c.checkHit e i k a = .pass b p (some j)) : j = i := by
  unfold Context.checkHit at h
  split at h
  · cases h
  · split at h <;> cases h
    rfl

/-- A request passes through a Valid entry (R59). -/
theorem valid_of_checks_pass {c : Context} {entries : Vector Entry 64} {k : AccessKind} {a : Word} {b : BitVec 4} {p : Word}
    {i : EntryId} (h : c.checks entries k a = .pass b p (some i)) : entries[i].state = .valid := by
  unfold Context.checks at h
  split at h
  · unfold Context.checkDirect at h
    split at h <;> cases h
  · split at h
    · cases h
    · split at h
      · cases h
      · rename_i j hj
        obtain rfl := hit_of_checkHit_pass h
        exact valid_of_lookup hj

/-- A request misses only where no Valid entry holds its key (R59). -/
theorem absent_of_checks_miss {c : Context} {entries : Vector Entry 64} {k : AccessKind} {a : Word} {key : Key}
    (h : c.checks entries k a = .miss key) : ∀ i : EntryId, entries[i].state = .valid → entries[i].key ≠ key := by
  unfold Context.checks at h
  split at h
  · unfold Context.checkDirect at h
    split at h <;> cases h
  · split at h
    · cases h
    · split at h
      · rename_i hnone
        cases h
        exact (lookup_eq_none_iff entries _).1 hnone
      · unfold Context.checkHit at h
        split at h
        · cases h
        · split at h <;> cases h

theorem faultRequest_cacheEffects (s : State) (r : Request) (k : FaultKind) (c : Option ContextId) :
    CacheEffects s (s.faultRequest r k c) := .of_eq (by simp) (by simp)

theorem missRequest_cacheEffects (s : State) (r : Request) (c : ContextId) {k : Key}
    (h : ∀ i : EntryId, s.cache.entries[i].state = .valid → s.cache.entries[i].key ≠ k) :
    CacheEffects s (s.missRequest r c k) := by
  unfold State.missRequest
  split
  · split
    · exact faultRequest_cacheEffects ..
    · exact .single (.parks (r.missItem c k) h rfl (park_parked ..))
  · exact (faultRequest_cacheEffects s r .miss (some c)).then_eq (by simp) (reportNotParked_parked ..)

/-- Marking an entry that is Valid (R63). -/
theorem markEntry_cacheEffects (s : State) {hit : Option EntryId}
    (hvalid : ∀ i ∈ hit, s.cache.entries[i].state = .valid) {f : Entry → Entry}
    (hf : ∀ e, ∃ ref mod, f e = { e with referenced := ref, modified := mod }) : CacheEffects s (s.markEntry hit f) := by
  cases hit with
  | none => exact .refl
  | some i =>
    obtain ⟨ref, mod, hmark⟩ := hf s.cache.entries[i]
    exact .single (.marked i ref mod (hvalid i rfl) (by rw [← hmark]; rfl) (.of_eq rfl))

theorem issue_cacheEffects (s : State) (r : Request) (c : ContextId) (b : BitVec 4) (a : Word) {hit : Option EntryId}
    (hvalid : ∀ i ∈ hit, s.cache.entries[i].state = .valid) (k : AccessKind) :
    CacheEffects s ((s.issue r c b a).markEntry hit (·.markIssued k)) :=
  (markEntry_cacheEffects (s.issue r c b a) (by simpa using hvalid) fun _ => ⟨_, _, rfl⟩).after_eq (by simp) (by simp)

theorem condFail_cacheEffects (s : State) (n : AgentId) (t : AgentTag) {hit : Option EntryId}
    (hvalid : ∀ i ∈ hit, s.cache.entries[i].state = .valid) :
    CacheEffects s ((s.respond n t .condFail).markEntry hit (·.markCondFail)) :=
  (markEntry_cacheEffects (s.respond n t .condFail) (by simpa using hvalid) fun _ => ⟨_, _, rfl⟩).after_eq (by simp)
    (by simp)

/-- A request that passes its checks marks its entry; the reservations it changes stand elsewhere. -/
theorem passRequest_cacheEffects (s : State) (r : Request) (c : ContextId) (b : BitVec 4) (a : Word) {hit : Option EntryId}
    (hvalid : ∀ i ∈ hit, s.cache.entries[i].state = .valid) : CacheEffects s (s.passRequest r c b a hit) := by
  unfold State.passRequest
  split
  case h_1 | h_2 => exact issue_cacheEffects s r c b a hvalid _
  case h_3 | h_4 => exact (issue_cacheEffects s r c b a hvalid _).then_eq rfl rfl
  case h_5 =>
    split
    · exact (issue_cacheEffects s r c b a hvalid _).then_eq rfl rfl
    · exact (condFail_cacheEffects s r.agent r.tag hvalid).then_eq rfl rfl

theorem decideRequest_cacheEffects (s : State) (r : Request) : CacheEffects s (s.decideRequest r) := by
  unfold State.decideRequest
  split
  · exact faultRequest_cacheEffects ..
  · split
    · exact faultRequest_cacheEffects ..
    · split
      · exact faultRequest_cacheEffects ..
      · rename_i hmiss
        exact missRequest_cacheEffects s r _ (absent_of_checks_miss hmiss)
      · rename_i hpass
        refine passRequest_cacheEffects s r _ _ _ fun i hi => ?_
        rw [Option.mem_def.1 hi] at hpass
        exact valid_of_checks_pass hpass

theorem decideItem_cacheEffects (s : State) (n : AgentId) (it : Item) : CacheEffects s (s.decideItem n it) := by
  rcases decideItem_cases s n it with ⟨-, q, a, h⟩ | ⟨-, code, h⟩ | ⟨-, -, r, -, -, h⟩ <;> rw [h]
  · exact .of_eq (by simp) (by simp)
  · exact .of_eq (by simp) (by simp)
  · exact decideRequest_cacheEffects s r

/-! ### Host commands -/

/-- A key argument in range has no segment id 0 (R65). -/
theorem seg_ne_zero_of_keyArg {a b : Word} {k : Key} (h : keyArg a b = some k) : k.seg ≠ 0 := by
  by_cases hrange : KeyInRange a b
  · rw [keyArg_eq_some hrange, Option.some.injEq] at h
    obtain ⟨hpos, hmax, -⟩ := hrange
    rw [← h, ne_eq, ← BitVec.toNat_inj, BitVec.toNat_ofNat, Nat.mod_eq_of_lt (by omega)]
    exact Nat.pos_iff_ne_zero.1 hpos
  · rw [keyArg_eq_none hrange] at h
    cases h

/-- The holder of a key is non-Empty and has the key (R57). -/
theorem holds_of_holder {entries : Vector Entry 64} {k : Key} {i : EntryId} (h : holder entries k = some i) :
    entries[i].state ≠ .empty ∧ entries[i].key = k := by
  simpa using ((findIdx_eq_some ..).1 h).1

/-- Without a holder no entry has the key (R57). -/
theorem keyAbsent_of_holder {s : State} {k : Key} (h : holder s.cache.entries k = none) : s.KeyAbsent k := by
  intro j hj
  have hno := (findIdx_eq_none ..).1 h j
  simp only [Bool.and_eq_false_imp, decide_eq_true_eq, decide_eq_false_iff_not] at hno
  exact hno hj

theorem insertAddress_cacheEffects (s : State) {k : Key} (hseg : k.seg ≠ 0) (b : BitVec 4) (f : BitVec 20) (p : Bool) :
    CacheEffects s (s.insertAddress k b f p).state := by
  unfold State.insertAddress
  split
  · rename_i i hi
    exact .single (.addressed i k b f p hseg (.inl (holds_of_holder hi)) rfl (.of_eq rfl))
  · rename_i hnone
    have habsent := keyAbsent_of_holder hnone
    split
    · exact .single (.addressed _ k b f p hseg (.inr habsent) rfl (.of_eq rfl))
    · split
      · exact .single (.addressed _ k b f p hseg (.inr habsent) rfl (.of_eq rfl))
      · exact .refl

theorem insertRights_cacheEffects (s : State) (k : Key) (pt : PageType) (rl wl : BitVec 2) (pid : BitVec 16) :
    CacheEffects s (s.insertRights k pt rl wl pid).state := by
  unfold State.insertRights
  split
  · exact .refl
  · rename_i i hi
    obtain ⟨hpresent, hkey⟩ := holds_of_holder hi
    refine .single (.rights i pt rl wl pid hpresent rfl (.of_remove (p := (·.under k)) rfl) fun p hp => ?_)
    have hp : p ∈ (s.miss.remove (·.under k)).parked := hp
    rw [(MissBlock.remove_removedFrom s.miss _).1] at hp
    rw [hkey]
    simpa [Parked.under] using (List.mem_filter.1 hp).2

/-- An entry that is emptied. -/
theorem setEntry_cleared_cacheEffect (s : State) (i : EntryId) : CacheEffect s (s.setEntry i Entry.cleared) := by
  refine .emptied (decide <| · = i) (fun j => ?_) (.of_eq rfl)
  simp only [State.setEntry_cache, set_getElem_fin, decide_eq_true_eq]

theorem purgeWhere_cacheEffect (s : State) (p : Entry → Bool) : CacheEffect s (s.purgeWhere p) := by
  refine .emptied (fun i => decide (s.cache.entries[i].state ≠ .empty) && p s.cache.entries[i]) (fun j => ?_)
    (.of_eq (by simp))
  rw [State.purgeWhere_cache]
  exact mapIdx_fin ..

theorem purgeMany_cacheEffects (s : State) (p : Entry → Bool) : CacheEffects s (s.purgeMany p).state :=
  .single (purgeWhere_cacheEffect s p)

theorem cmdPurgeEntry_cacheEffects (s : State) (a : Vector Word 4) : CacheEffects s (s.cmdPurgeEntry a).state := by
  unfold State.cmdPurgeEntry
  split
  · split
    · exact .refl
    · exact CacheEffects.after_eq (.single (setEntry_cleared_cacheEffect _ _)) rfl rfl
  · exact .refl

theorem abortKey_cacheEffects (s : State) (k : Key) : CacheEffects s (s.abortKey k) :=
  .of_remove (foldl_keeps _ State.cache (fun _ _ => State.finishParked_cache ..) _ _) (abortKey_miss s k)

theorem cmdSetSuspended_cacheEffects (s : State) (a : Vector Word 4) (v : Bool) :
    CacheEffects s (s.cmdSetSuspended a v).state := by
  unfold State.cmdSetSuspended
  split <;> exact .of_eq rfl rfl

/-- The body of every command acts on the cache and the parked list by cache effects (R131). -/
theorem commandBody_cacheEffects (s : State) (k : Byte) (a : Vector Word 4) :
    CacheEffects s (s.commandBody k a).state := by
  generalize hbody : s.commandBody k = body
  unfold State.commandBody at hbody
  split at hbody <;> subst hbody
  case h_1 =>
    unfold State.cmdInsertAddress
    split
    · rename_i hkey _ _ _
      exact insertAddress_cacheEffects s (seg_ne_zero_of_keyArg hkey) ..
    · exact .refl
  case h_2 =>
    unfold State.cmdInsertRights
    split
    · exact insertRights_cacheEffects ..
    · exact .refl
  case h_3 => exact cmdPurgeEntry_cacheEffects s a
  case h_4 =>
    unfold State.cmdPurgeSegment
    split
    · exact purgeMany_cacheEffects ..
    · exact .refl
  case h_5 =>
    unfold State.cmdPurgeAll
    split
    · exact purgeMany_cacheEffects ..
    · exact .refl
  case h_6 => unfold State.cmdReadEntry; split <;> exact .refl
  case h_7 =>
    unfold State.cmdProbe State.probeAnswer
    split
    · split <;> exact .refl
    · exact .refl
  case h_8 =>
    unfold State.cmdBindAgent
    split
    · split <;> exact .of_eq rfl rfl
    · exact .refl
  case h_9 =>
    unfold State.cmdUnbindAgent
    split
    · split <;> exact .of_eq rfl rfl
    · exact .refl
  case h_10 =>
    unfold State.cmdWriteContext
    split
    · split <;> exact .of_eq rfl rfl
    · exact .refl
  case h_11 =>
    unfold State.cmdReadContext
    split
    · split <;> exact .refl
    · exact .refl
  case h_12 => exact cmdSetSuspended_cacheEffects s a true
  case h_13 => exact cmdSetSuspended_cacheEffects s a false
  case h_14 =>
    unfold State.cmdAbortParked
    split
    · split
      · exact abortKey_cacheEffects ..
      · exact .refl
    · exact .refl
  case h_15 => unfold State.cmdClearReservation; split <;> exact .of_eq rfl rfl
  case h_16 => unfold State.cmdEnterStandby; split <;> exact .of_eq rfl rfl
  case h_17 => unfold State.cmdArmSoftReset; split <;> exact .of_eq rfl rfl
  case h_18 => exact .refl

theorem completeCommand_cacheEffects (s : State) (k : Byte) (a : Vector Word 4) :
    CacheEffects s (State.completeCommand (s.commandBody k a) k) := (commandBody_cacheEffects s k a).then_eq rfl rfl

/-- A host command step acts by cache effects, whatever body it runs. -/
theorem commandStep_cacheEffects (s : State) (p : Byte → Bool) {body : Vector Word 4 → CmdResult}
    (hbody : ∀ a, CacheEffects s (body a).state) : CacheEffects s (s.commandStep p body) := by
  rcases commandStep_cases s p body with h | ⟨k, a, -, -, h⟩ <;> rw [h]
  exact CacheEffects.serve ((hbody a).then_eq rfl rfl)

/-! ### Steps of the decision point -/

theorem newItem_cacheEffects (s : State) (n : AgentId) (it : Item) (rest : List Item) :
    CacheEffects s ((s.afterTaking n rest).decideItem n it) :=
  (decideItem_cacheEffects (s.afterTaking n rest) n it).after_eq rfl rfl

theorem takeNewItem_cacheEffects (s : State) (p : Item → Bool) : CacheEffects s (s.takeNewItem p) := by
  rcases takeNewItem_cases s p with h | ⟨n, it, rest, -, -, h⟩ <;> rw [h]
  exact (newItem_cacheEffects s n it rest).serve

theorem replayDecided_cacheEffects (s : State) : CacheEffects s s.replayDecided := by
  unfold State.replayDecided
  split
  · exact .refl
  · rename_i r rest _
    exact (decideRequest_cacheEffects (s.replayTaken rest) r.request).after_eq rfl rfl

/-- Records that age are parked under the keys they had, and those timed out leave (R90). -/
theorem ageParked_cacheEffects (s : State) : CacheEffects s s.ageParked := by
  refine .single (.frame ?_ fun p hp => ?_)
  · exact congrArg _ (foldl_keeps _ State.cache (fun _ _ => State.finishParked_cache ..) _ _)
  · rw [ageParked_miss, (MissBlock.remove_removedFrom _ _).1] at hp
    obtain ⟨q, hq, rfl⟩ := List.mem_map.1 (List.mem_of_mem_filter hp)
    exact ⟨q, hq, rfl⟩

theorem epochDuties_cacheEffects (s : State) : CacheEffects s s.dropEpoch.epochDuties :=
  ((ageParked_cacheEffects s.dropEpoch).then_eq (by simp [State.epochDuties]) (by simp [State.epochDuties])).after_eq
    rfl rfl

/-- The soft reset leaves no record parked and no entry changed (R56, R162). -/
theorem softReset_cacheEffects (s : State) : CacheEffects s s.softReset :=
  .single (.frame rfl fun _ hp => absurd hp List.not_mem_nil)

theorem takeEpochStep_cacheEffects (s : State) : CacheEffects s s.takeEpochStep := by
  unfold State.takeEpochStep State.epochStep
  split
  · split
    · exact (softReset_cacheEffects s.dropEpoch).after_eq rfl rfl
    · exact (epochDuties_cacheEffects s).serve
  · exact .refl

theorem tickWhere_cacheEffects (s : State) (p : Timer → Bool) : CacheEffects s (s.tickWhere p) := by
  unfold State.tickWhere
  split_ifs
  · exact takeEpochStep_cacheEffects s
  · exact .refl
  · exact .of_eq rfl rfl
  · exact .refl

/-- The state that the service of the backlog finds (R86). -/
theorem beforeService_cacheEffects {s u : State} (h : s.beforeService = some u) : CacheEffects s u := by
  unfold State.beforeService at h
  split at h
  case h_1 => split at h <;> cases h; exact epochDuties_cacheEffects s
  case h_3 => cases h; exact replayDecided_cacheEffects s
  case h_4 =>
    obtain ⟨e, -, rfl⟩ := Option.map_eq_some_iff.1 h
    exact completeCommand_cacheEffects s e.kind e.args
  case h_5 n hnext =>
    obtain ⟨it, rest, hserves⟩ := servesItem_of_nextStep hnext
    cases h
    unfold State.newItemDecided
    rw [hserves.2.2]
    exact newItem_cacheEffects s n it rest
  all_goals cases h

theorem backlogService_cacheEffects {s t : State} (h : execBacklogService s = .next t) : CacheEffects s t := by
  rcases execBacklogService_cases s with hsame | ⟨u, hu, -, hserve⟩
  · rw [hsame] at h; exact .of_next h .refl
  · rw [hserve] at h; exact .of_next h (beforeService_cacheEffects hu).serve

/-! ### The links, the host port and time -/

theorem takeIn_cacheEffects (s : State) (n : AgentId) (m : Message) : CacheEffects s (s.takeIn n m) := by
  unfold State.takeIn
  split
  · exact .of_eq (by simp) (by simp)
  · exact .refl

theorem assertPortReset_cacheEffects (s : State) (n : AgentId) : CacheEffects s (s.assertPortReset n) := by
  unfold State.assertPortReset
  split <;> exact .of_eq rfl rfl

theorem sendDownstream_cacheEffects (s : State) : CacheEffects s s.sendDownstream := by
  unfold State.sendDownstream
  split <;> exact .of_eq rfl rfl

theorem downResponse_cacheEffects (s : State) (g : GatewayTag) (st : MemStatus) (d : List Byte) :
    CacheEffects s (s.downResponse g st d) := by
  rcases downResponse_cases s g st d with h | ⟨r, -, -, ⟨-, h⟩ | ⟨-, h⟩⟩ <;> rw [h]
  · exact .of_eq rfl rfl
  · exact .of_eq rfl rfl
  · unfold State.relay
    cases st <;> exact .of_eq (by simp) (by simp)

theorem issueCommand_cacheEffects (s : State) (v : Word) : CacheEffects s (s.issueCommand v) := by
  unfold State.issueCommand
  split <;> exact .of_eq (by simp) (by simp)

theorem missPop_cacheEffects (s : State) : CacheEffects s s.missPop := by
  unfold State.missPop
  split
  · exact CacheEffects.serve (.of_eq rfl (pop_parked s.miss))
  · exact .refl

theorem writeEffect_cacheEffects (s : State) (o : BitVec 8) (v : Word) : CacheEffects s (s.writeEffect o v) := by
  unfold State.writeEffect
  split
  case h_6 => exact issueCommand_cacheEffects s v
  case h_9 => exact missPop_cacheEffects s
  all_goals exact .of_eq rfl rfl

theorem hostRead_cacheEffects (s : State) (o : BitVec 8) : CacheEffects s (s.hostRead o) := by
  unfold State.hostRead
  split <;> exact .of_eq rfl rfl

theorem hostAccess_cacheEffects (s : State) (a : HostAccess) : CacheEffects s (s.hostAccess a) := by
  unfold State.hostAccess
  split
  · split
    · exact (writeEffect_cacheEffects s _ _).then_eq rfl rfl
    · exact hostRead_cacheEffects ..
  · exact .of_eq rfl rfl

theorem tbclk_cacheEffects (s : State) : CacheEffects s s.tbclk := by
  have hepoch : s.epochPeriodTick.cache = s.cache := by unfold State.epochPeriodTick; split <;> rfl
  have htimer (t : State) : t.timerPeriod.cache = t.cache := by unfold State.timerPeriod; split_ifs <;> rfl
  exact .of_eq ((htimer s.epochPeriodTick).trans hepoch) (by rw [(quiet_tbclk s).miss])

/-! ### Every step -/

/-- Power-on reset empties every entry and leaves no record parked (R158). -/
theorem powerOn_cacheEffects (s : State) (pins : Pins) :
    CacheEffects s { State.poweredOn pins with out := s.out, pending := s.pending } := by
  refine .single (.emptied (fun _ => true) (fun i => ?_) fun _ hp => absurd hp List.not_mem_nil)
  show (Vector.replicate 64 Entry.cleared)[i] = _
  rw [Fin.getElem_fin, Vector.getElem_replicate, if_pos rfl]

/-- Every command that answers with a state reaches it by cache effects. -/
theorem exec_cacheEffects {c : Instr} {s t : State} (h : exec c s = .next t) : CacheEffects s t := by
  have command (p : Byte → Bool) (k : Byte) : CacheEffects s (s.commandStep p (s.commandBody k)) :=
    commandStep_cacheEffects s p (commandBody_cacheEffects s k)
  cases c with
  | powerOnReset pins => exact .of_next h (powerOn_cacheEffects s pins)
  | insertAddress => exact .of_next h (command _ 1)
  | insertRights => exact .of_next h (command _ 2)
  | purgeEntry => exact .of_next h (command _ 3)
  | purgeSegment => exact .of_next h (command _ 4)
  | purgeAll => exact .of_next h (command _ 5)
  | readEntry => exact .of_next h (command _ 6)
  | probe => exact .of_next h (command _ 7)
  | bindAgent => exact .of_next h (command _ 8)
  | unbindAgent => exact .of_next h (command _ 9)
  | writeContext => exact .of_next h (command _ 10)
  | readContext => exact .of_next h (command _ 11)
  | suspendContext => exact .of_next h (command _ 12)
  | resumeContext => exact .of_next h (command _ 13)
  | abortParked => exact .of_next h (command _ 14)
  | clearReservation => exact .of_next h (command _ 15)
  | enterStandby => exact .of_next h (command _ 16)
  | armSoftReset => exact .of_next h (command _ 17)
  | badCommand => exact .of_next h (command _ 0)
  | admission n m =>
    have hadm : (if m.linkOk then .next (s.takeIn n m) else .fault .linkBroken : Answer) = .next t := h
    split at hadm
    · exact .of_next hadm (takeIn_cacheEffects s n m)
    · cases hadm
  | agrstNAssertion n => exact .of_next h (assertPortReset_cacheEffects s n)
  | portResetStep =>
    refine .of_next h ?_
    split
    · exact .of_remove rfl rfl
    · exact .refl
  | newAgentItemStep | signal | tagInUse => exact .of_next h (takeNewItem_cacheEffects s _)
  | replayStep =>
    refine .of_next h ?_
    split
    · exact (replayDecided_cacheEffects s).serve
    · exact .refl
  | downstreamRequest => exact .of_next h (sendDownstream_cacheEffects s)
  | downstreamResponse g st d => exact .of_next h (downResponse_cacheEffects s g st d)
  | epochStep => exact .of_next h (takeEpochStep_cacheEffects s)
  | missTimeout | reservationExpiry =>
    refine .of_next h ?_
    split
    · exact takeEpochStep_cacheEffects s
    · exact .refl
  | backlogService => exact backlogService_cacheEffects h
  | cmdIssue v => exact .of_next h ((issueCommand_cacheEffects s v).then_eq rfl rfl)
  | missPop v => exact .of_next h ((missPop_cacheEffects s).then_eq rfl rfl)
  | timerTick | intervalMatch | timerOverflow => exact .of_next h (tickWhere_cacheEffects s _)
  | srstNHigh =>
    refine .of_next h ?_
    split <;> exact .of_eq rfl rfl
  | hostAccessError a => exact .of_next h (hostAccess_cacheEffects s a)
  | registerWrite o v => exact .of_next h (hostAccess_cacheEffects s _)
  | agrstNRelease | epochEvent | resultPop | faultPop | cmdDroppedClear | eventRaise | eventClear | eventPermit
  | deliverEnable | claim | complete | serviceStatusClear | extEventConfig | evPinChange | filteredLevelChange
  | signalCodeRead | epochStatusRead | deviceConfig | timerControl | resetAction | timerCompare | timerStatusClear
  | srstNLow | portReady => exact .of_next h (.of_eq rfl rfl)

/-- Every step reaches its state by cache effects. -/
theorem step_cacheEffects {s t : State} (h : step s = .next t) : CacheEffects s t := by
  unfold step at h
  split at h
  · exact .of_next h (tbclk_cacheEffects s)
  · exact (exec_cacheEffects h).after_eq rfl rfl

/-- What every cache effect keeps, every step keeps. -/
theorem step_cache_induction {P : State → Prop} (hP : ∀ s t, CacheEffect s t → P s → P t) {s t : State} (hs : P s)
    (h : step s = .next t) : P t := by
  have hchain := step_cacheEffects h
  clear h
  induction hchain with
  | refl => exact hs
  | tail _ he ih => exact hP _ _ he ih

end Sys2Proof.Machine
end

section
/-! The translation cache stays sound, and nothing is parked under the key of a Valid entry: each cache effect keeps both. -/

namespace Sys2Proof.Machine

/-! ### Sound entries -/

/-- One entry is sound by itself: an Empty one is all 0, another has a segment id, and an AddressOnly one has no rights and no
use flags (R55). -/
structure Entry.Sound (e : Entry) : Prop where
  empty : e.state = .empty → e = Entry.cleared
  seg : e.state ≠ .empty → e.key.seg ≠ 0
  addressOnly : e.state = .addressOnly → e = Entry.addressed e.key e.bank e.frame e.pinned

/-- The cache is sound where its entries are and no two non-Empty ones have one key (R55, R57). -/
theorem cacheSound_iff (s : State) :
    s.CacheSound ↔ (∀ i j : EntryId, s.cache.entries[i].state ≠ .empty → s.cache.entries[j].state ≠ .empty →
      s.cache.entries[i].key = s.cache.entries[j].key → i = j) ∧ ∀ i : EntryId, s.cache.entries[i].Sound :=
  ⟨fun ⟨hkeys, hempty, hseg, haddr⟩ => ⟨hkeys, fun i => ⟨hempty i, hseg i, haddr i⟩⟩,
    fun ⟨hkeys, hsound⟩ => ⟨hkeys, fun i => (hsound i).empty, fun i => (hsound i).seg, fun i => (hsound i).addressOnly⟩⟩

theorem Entry.sound_cleared : Entry.cleared.Sound := ⟨fun _ => rfl, fun h => absurd rfl h, nofun⟩

theorem Entry.sound_addressed {k : Key} (h : k.seg ≠ 0) (b : BitVec 4) (f : BitVec 20) (p : Bool) :
    (Entry.addressed k b f p).Sound := ⟨nofun, fun _ => h, fun _ => rfl⟩

/-- A Valid entry with a segment id is sound. -/
theorem Entry.sound_of_valid {e : Entry} (hvalid : e.state = .valid) (hseg : e.key.seg ≠ 0) : e.Sound :=
  ⟨fun h => (nomatch hvalid.symm.trans h), fun _ => hseg, fun h => (nomatch hvalid.symm.trans h)⟩

/-- Where each entry of `t` is Empty or has the key of a non-Empty one of `s`, no key gets a second entry (R57). -/
theorem keys_unique_of_kept {s t : State} (hs : s.CacheSound)
    (h : ∀ i : EntryId, t.cache.entries[i].state ≠ .empty →
      s.cache.entries[i].state ≠ .empty ∧ t.cache.entries[i].key = s.cache.entries[i].key)
    (i j : EntryId) (hi : t.cache.entries[i].state ≠ .empty) (hj : t.cache.entries[j].state ≠ .empty)
    (hkey : t.cache.entries[i].key = t.cache.entries[j].key) : i = j := by
  obtain ⟨hi, hik⟩ := h i hi
  obtain ⟨hj, hjk⟩ := h j hj
  exact hs.1 i j hi hj (by rw [← hik, ← hjk, hkey])

/-- One entry is written: what holds of the new entry and of the others holds of all. -/
theorem forall_set {P : EntryId → Entry → Prop} {v : Vector Entry 64} {i : EntryId} {e : Entry} (he : P i e)
    (hv : ∀ j, j ≠ i → P j v[j]) (j : EntryId) : P j (v.set i e)[j] := by
  rw [set_getElem_fin]
  split
  · rename_i h; exact h ▸ he
  · rename_i h; exact hv j h

/-- A sound cache stays sound where a non-Empty entry becomes a Valid one of its key (R63, R69). -/
theorem cacheSound_set_valid {s t : State} (hs : s.CacheSound) {i : EntryId} {e : Entry}
    (ht : t.cache.entries = s.cache.entries.set i e) (hpresent : s.cache.entries[i].state ≠ .empty)
    (hvalid : e.state = .valid) (hkey : e.key = s.cache.entries[i].key) : t.CacheSound := by
  have hsound := ((cacheSound_iff s).1 hs).2
  rw [cacheSound_iff]
  refine ⟨keys_unique_of_kept hs ?_, ?_⟩ <;> rw [ht]
  · exact forall_set (P := fun j x => x.state ≠ .empty →
      s.cache.entries[j].state ≠ .empty ∧ x.key = s.cache.entries[j].key) (fun _ => ⟨hpresent, hkey⟩) fun _ _ h => ⟨h, rfl⟩
  · exact forall_set (P := fun _ => Entry.Sound) (Entry.sound_of_valid hvalid (hkey ▸ (hsound i).seg hpresent))
      fun j _ => hsound j

/-- A sound cache stays sound where InsertAddress writes the entry of its key, or any entry where none has the key (R67,
R68). -/
theorem cacheSound_set_addressed {s t : State} (hs : s.CacheSound) {i : EntryId} {k : Key} {b : BitVec 4} {f : BitVec 20}
    {p : Bool} (hseg : k.seg ≠ 0)
    (hown : s.cache.entries[i].state ≠ .empty ∧ s.cache.entries[i].key = k ∨ s.KeyAbsent k)
    (ht : t.cache.entries = s.cache.entries.set i (Entry.addressed k b f p)) : t.CacheSound := by
  obtain ⟨hkeys, hsound⟩ := (cacheSound_iff s).1 hs
  have hother : ∀ j, j ≠ i → s.cache.entries[j].state ≠ .empty → s.cache.entries[j].key ≠ k := by
    rintro j hne hj rfl
    rcases hown with ⟨hi, hkey⟩ | habsent
    · exact hne (hkeys j i hj hi hkey.symm)
    · exact habsent j hj rfl
  rw [cacheSound_iff, ht]
  refine ⟨fun j l => ?_, forall_set (P := fun _ => Entry.Sound) (Entry.sound_addressed hseg b f p) fun j _ => hsound j⟩
  simp only [set_getElem_fin]
  split <;> split
  · rename_i hj hl; exact fun _ _ _ => hj.trans hl.symm
  · rename_i hl; exact fun _ hpresent hkey => absurd hkey.symm (hother l hl hpresent)
  · rename_i hj _; exact fun hpresent _ hkey => absurd hkey (hother j hj hpresent)
  · exact hkeys j l

theorem CacheEffect.cacheSound {s t : State} (h : CacheEffect s t) (hs : s.CacheSound) : t.CacheSound := by
  have hsound := ((cacheSound_iff s).1 hs).2
  cases h with
  | frame entries => simpa only [State.CacheSound, entries] using hs
  | marked i ref mod valid entries =>
    exact cacheSound_set_valid hs entries (by rw [valid]; exact nofun) valid rfl
  | parks r absent entries => simpa only [State.CacheSound, entries] using hs
  | addressed i k bank frame pin seg own entries => exact cacheSound_set_addressed hs seg own entries
  | rights i pt rl wl pid present entries => exact cacheSound_set_valid hs entries present rfl rfl
  | emptied p entries =>
    rw [cacheSound_iff]
    refine ⟨keys_unique_of_kept hs fun i hi => ?_, fun i => ?_⟩
    · rw [entries] at hi ⊢
      split at hi
      · exact absurd rfl hi
      · rename_i hp; exact ⟨hi, by rw [if_neg hp]⟩
    · rw [entries]
      split
      · exact Entry.sound_cleared
      · exact hsound i

/-- Settles O52: every cache effect keeps the cache sound. -/
theorem cacheStaysSound : Obligations.CacheStaysSound :=
  fun _ _ hs h => step_cache_induction (fun _ _ he => he.cacheSound) hs h

/-! ### Keys parked -/

/-- Nothing is parked under a Valid entry's key where the Valid entries are no more and no key is newly parked. -/
theorem noneParked_of_kept {s t : State} (hs : s.NoneParkedUnderValid) (hparked : s.ParkedFrom t)
    (h : ∀ i : EntryId, t.cache.entries[i].state = .valid →
      s.cache.entries[i].state = .valid ∧ t.cache.entries[i].key = s.cache.entries[i].key) : t.NoneParkedUnderValid := by
  intro i hi p hp hkey
  obtain ⟨hvalid, hk⟩ := h i hi
  obtain ⟨q, hq, hqp⟩ := hparked p hp
  exact hs i hvalid q hq (by rw [hqp, hkey, hk])

/-- One entry is written, and becomes Valid only where it was so with its key. -/
theorem noneParked_of_set {s t : State} (hs : s.NoneParkedUnderValid) {i : EntryId} {e : Entry}
    (ht : t.cache.entries = s.cache.entries.set i e) (hparked : s.ParkedFrom t)
    (he : e.state = .valid → s.cache.entries[i].state = .valid ∧ e.key = s.cache.entries[i].key) :
    t.NoneParkedUnderValid := by
  refine noneParked_of_kept hs hparked ?_
  rw [ht]
  exact forall_set (P := fun j x => x.state = .valid → s.cache.entries[j].state = .valid ∧ x.key = s.cache.entries[j].key)
    he fun _ _ h => ⟨h, rfl⟩

theorem CacheEffect.noneParkedUnderValid {s t : State} (h : CacheEffect s t) (hs : s.NoneParkedUnderValid) :
    t.NoneParkedUnderValid := by
  cases h with
  | frame entries parked => exact noneParked_of_kept hs parked (by rw [entries]; exact fun _ h => ⟨h, rfl⟩)
  | marked i ref mod valid entries parked => exact noneParked_of_set hs entries parked fun _ => ⟨valid, rfl⟩
  | parks r absent entries parked =>
    intro i hi p hp
    rw [entries] at hi ⊢
    rw [parked, mem_insertByOrder] at hp
    rcases hp with rfl | hp
    · exact (absent i hi).symm
    · exact hs i hi p hp
  | addressed i k bank frame pin _ _ entries parked => exact noneParked_of_set hs entries parked nofun
  | rights i pt rl wl pid _ entries parked released =>
    intro j hj p hp
    rw [entries] at hj ⊢
    obtain ⟨q, hq, hqp⟩ := parked p hp
    rw [set_getElem_fin] at hj ⊢
    split
    · exact released p hp
    · rename_i hne
      rw [if_neg hne] at hj
      exact hqp ▸ hs j hj q hq
  | emptied p entries parked =>
    refine noneParked_of_kept hs parked fun i hi => ?_
    rw [entries] at hi ⊢
    split at hi
    · cases hi
    · rename_i hp; exact ⟨hi, by rw [if_neg hp]⟩

/-- Settles O54: every cache effect keeps it; a request parks only after a miss, and InsertRights releases its key. -/
theorem nothingParksUnderValidEntry : Obligations.NothingParksUnderValidEntry :=
  fun _ _ hs h => step_cache_induction (fun _ _ he => he.noneParkedUnderValid) hs h

end Sys2Proof.Machine
end

section
/-! The checks that follow a hit, each by its condition and in the order of R39 (R35, R39, R42, R44, R60 to R62). -/

namespace Sys2Proof.Machine

/-! ### The terms of the checks -/

/-- A page type allows the kinds of its row (R60). -/
theorem allows_iff (pt : PageType) (k : AccessKind) : pt.allows k = true ↔ k ∈ pt.kinds := by
  cases pt <;> cases k <;> decide

/-- Write and ConditionalWrite are the write-type kinds (R2). -/
theorem isWriteType_iff (k : AccessKind) : k.isWriteType = true ↔ k = .write ∨ k = .conditionalWrite := by
  cases k <;> decide

/-- The level that the Privilege check compares (R61). -/
theorem Entry.levelFor_eq (e : Entry) (k : AccessKind) :
    e.levelFor k = if k = .write ∨ k = .conditionalWrite then e.writeLevel else e.readLevel := by
  simp only [Entry.levelFor, isWriteType_iff]

/-- No slot holds the page's pid (R35). -/
theorem pidSlot_eq_none {c : Context} {pid : BitVec 16} (h : ∀ j : Fin 4, c.pids[j].pid ≠ pid) : c.pidSlot pid = none := by
  rw [Context.pidSlot, findIdx_eq_none]
  intro j
  rw [decide_eq_false (h j), Bool.and_false]

/-- The matching slot is the lowest that holds the page's pid (R35). -/
theorem pidSlot_eq_some {c : Context} {pid : BitVec 16} (hpid : pid ≠ 0) {j : Fin 4} (hj : c.pids[j].pid = pid)
    (hlow : ∀ h : Fin 4, h < j → c.pids[h].pid ≠ pid) : c.pidSlot pid = some j := by
  rw [Context.pidSlot, findIdx_eq_some]
  refine ⟨?_, fun h hh => ?_⟩
  · rw [hj, decide_eq_true hpid, decide_eq_true rfl, Bool.and_self]
  · rw [decide_eq_false (hlow h hh), Bool.and_false]

/-! ### The entry checks -/

section
variable {e : Entry} {c : Context} {k : AccessKind}

theorem check_of_pageType (hk : k ∉ e.pageType.kinds) : e.check c k = some .pageType := by
  have hno : e.pageType.allows k = false := by rwa [Bool.eq_false_iff, ne_eq, allows_iff]
  simp only [Entry.check, hno, Bool.not_false, if_true]

theorem check_of_privilege (hk : k ∈ e.pageType.kinds) (hlevel : (e.levelFor k).toNat < c.privilege.toNat) :
    e.check c k = some .privilege := by
  have hdenied : ¬ c.privilege ≤ e.levelFor k := by rw [BitVec.le_def]; omega
  simp only [Entry.check, (allows_iff _ _).2 hk, hdenied, Bool.not_true, Bool.false_eq_true, if_false, not_false_eq_true,
    if_true]

/-- With page type and privilege passed, a page without a pid passes (R62). -/
theorem check_of_pid_zero (hk : k ∈ e.pageType.kinds) (hlevel : c.privilege.toNat ≤ (e.levelFor k).toNat)
    (hpid : e.pid = 0) : e.check c k = none := by
  simp only [Entry.check, (allows_iff _ _).2 hk, BitVec.le_def, hlevel, hpid, Bool.not_true, Bool.false_eq_true, if_false,
    not_true_eq_false, if_true]

/-- With page type and privilege passed, a pid that no slot holds fails (R62). -/
theorem check_of_pidMismatch (hk : k ∈ e.pageType.kinds) (hlevel : c.privilege.toNat ≤ (e.levelFor k).toNat)
    (hpid : e.pid ≠ 0) (hno : ∀ j : Fin 4, c.pids[j].pid ≠ e.pid) : e.check c k = some .pidMismatch := by
  simp only [Entry.check, (allows_iff _ _).2 hk, BitVec.le_def, hlevel, hpid, pidSlot_eq_none hno, Bool.not_true,
    Bool.false_eq_true, if_false, not_true_eq_false]

/-- With page type and privilege passed, the matching slot decides on a write (R62). -/
theorem check_of_pidSlot (hk : k ∈ e.pageType.kinds) (hlevel : c.privilege.toNat ≤ (e.levelFor k).toNat)
    (hpid : e.pid ≠ 0) {j : Fin 4} (hj : c.pids[j].pid = e.pid) (hlow : ∀ h : Fin 4, h < j → c.pids[h].pid ≠ e.pid) :
    e.check c k =
      if (k = .write ∨ k = .conditionalWrite) ∧ c.pids[j].writeDisable = true then some .pidWriteDisabled else none := by
  simp only [Entry.check, (allows_iff _ _).2 hk, BitVec.le_def, hlevel, hpid, pidSlot_eq_some hpid hj hlow, Bool.not_true,
    Bool.false_eq_true, if_false, not_true_eq_false, Bool.and_eq_true, isWriteType_iff]

end

/-! ### After a hit -/

/-- The lookup finds the one Valid entry of a key (R59). -/
theorem lookup_eq_some {entries : Vector Entry 64} {key : Key} {i : EntryId} (hvalid : entries[i].state = .valid)
    (hkey : entries[i].key = key)
    (hone : ∀ j : EntryId, entries[j].state = .valid → entries[j].key = key → j = i) : lookup entries key = some i := by
  refine findIdx_eq_of_unique ?_ fun j hj => ?_
  · rw [decide_eq_true hvalid, decide_eq_true hkey, Bool.and_self]
  · rw [Bool.and_eq_true, decide_eq_true_eq, decide_eq_true_eq] at hj
    exact hone j hj.1 hj.2

/-- An address whose key a Valid entry holds is checked by that entry (R39, R59). -/
theorem checks_of_lookup_some {c : Context} (h : c.mode = .translated) {addr : Word} (hs : c.segs[slotOf addr] ≠ 0)
    {entries : Vector Entry 64} {i : EntryId} (hl : lookup entries (c.keyOf addr) = some i) (k : AccessKind) :
    c.checks entries k addr = c.checkHit entries[i] i k addr := by
  simp only [Context.checks, h, hs, hl, if_false]

/-- An entry check that fails is the one reported (R39). -/
theorem checkHit_of_fault {c : Context} {e : Entry} {k : AccessKind} {f : FaultKind} (h : e.check c k = some f)
    (i : EntryId) (addr : Word) : c.checkHit e i k addr = .fault f (some i) := by
  simp only [Context.checkHit, h]

/-- With every entry check passed, device space is checked at the physical address, and the request passes (R42, R44). -/
theorem checkHit_of_none {c : Context} {e : Entry} {k : AccessKind} (h : e.check c k = none) (i : EntryId)
    {addr phys : Word} (hphys : phys.toNat = e.frame.toNat * 4096 + addr.toNat % 4096) :
    c.checkHit e i k addr =
      if e.bank = 0 ∧ 0xF0000000 ≤ phys.toNat ∧ c.privilege ≠ 0 then .fault .deviceSpace (some i)
      else .pass e.bank phys (some i) := by
  simp only [Context.checkHit, h, frameAddr_eq e.frame addr phys hphys, deviceSpaceFails_iff]

/-- Settles O18: the lookup finds the entry, and each hypothesis fixes how the entry checks end. -/
theorem entryChecksInOrder : Obligations.EntryChecksInOrder := by
  intro c entries k addr i hmode slot hslot hseg vpn hvpn hvalid hkey hone phys hphys
  have hhit : c.checks entries k addr = c.checkHit entries[i] i k addr := by
    rw [← slotOf_eq slot addr hslot] at hseg
    rw [← keyOf_eq c hslot hvpn] at hkey hone
    exact checks_of_lookup_some hmode hseg (lookup_eq_some hvalid hkey hone) k
  rw [hhit]
  refine ⟨fun hk => checkHit_of_fault (check_of_pageType hk) i addr, ?_⟩
  rintro hk level rfl
  rw [← Entry.levelFor_eq]
  refine ⟨fun hlevel => checkHit_of_fault (check_of_privilege hk hlevel) i addr, fun hlevel => ⟨fun hpid hno => ?_,
    fun j hpid hj hlow hwrite hdisabled => ?_, ?_⟩⟩
  · exact checkHit_of_fault (check_of_pidMismatch hk hlevel hpid hno) i addr
  · refine checkHit_of_fault ?_ i addr
    rw [check_of_pidSlot hk hlevel hpid hj hlow, if_pos ⟨hwrite, hdisabled⟩]
  · intro hpass
    refine checkHit_of_none ?_ i hphys
    by_cases hpid : entries[i].pid = 0
    · exact check_of_pid_zero hk hlevel hpid
    · obtain ⟨j, hj, hlow, hallowed⟩ := hpass.resolve_left hpid
      rw [check_of_pidSlot hk hlevel hpid hj hlow, if_neg hallowed]

end Sys2Proof.Machine
end

section
/-! The issue of a Write. -/

namespace Sys2Proof.Machine

/-- The reservations after an issued write: the other agents' valid ones on the lines it concerns are cleared (R99). -/
def State.resvAfterWrite (s : State) (r : Request) (bank : BitVec 4) (addr : Word) : Vector Reservation 8 :=
  (s.writeClears r bank addr).resv

/-- A Write that passes its checks is issued, marks its entry and clears the other agents' reservations (R63, R99). -/
theorem passRequest_of_write (s : State) {r : Request} (c : ContextId) (b : BitVec 4) (a : Word) (hit : Option EntryId)
    (h : r.acc.kind = .write) :
    s.passRequest r c b a hit =
      { (s.issue r c b a).markEntry hit (·.markIssued .write) with resv := s.resvAfterWrite r b a } := by
  have hresv : ((s.issue r c b a).markEntry hit (·.markIssued .write)).resv = s.resv := by simp
  simp only [State.passRequest, h, State.resvAfterWrite, State.writeClears, State.clearReservationsWhere, hresv]

/-- An issued write leaves its agent's own reservation (R99). -/
theorem resvAfterWrite_own (s : State) (r : Request) (b : BitVec 4) (a : Word) :
    (s.resvAfterWrite r b a)[r.agent] = s.resv[r.agent] := by
  show (mapIdx _ s.resv)[r.agent] = _
  rw [mapIdx_fin]
  simp

/-- An issued write of at least one byte clears another agent's reservation where it is valid and its line holds one of the
bytes (R96, R99). -/
theorem resvAfterWrite_other (s : State) {r : Request} (b : BitVec 4) (a : Word) (hlen : 1 ≤ r.acc.len.toNat) {n : AgentId}
    (hn : n ≠ r.agent) :
    (s.resvAfterWrite r b a)[n] =
      if s.resv[n].valid = true ∧ s.resv[n].bank = b ∧ ∃ i < r.acc.len.toNat,
          s.resv[n].line.toNat ≤ a.toNat + i ∧ a.toNat + i < s.resv[n].line.toNat + 32
      then Reservation.cleared else s.resv[n] := by
  show (mapIdx _ s.resv)[n] = _
  rw [mapIdx_fin]
  simp only [Bool.and_eq_true, decide_eq_true hn, true_and, writeConcerns_iff _ _ _ _ _ hlen]

/-- The downstream request of a Write carries its data (R108). -/
theorem Request.downRequest_of_write (r : Request) (g : GatewayTag) (b : BitVec 4) (a : Word) (h : r.acc.kind = .write) :
    r.downRequest g b a = { gtag := g, kind := .write, bank := b, addr := a, len := r.acc.len, data := r.acc.data } := by
  simp [Request.downRequest, AccessKind.down, AccessKind.isWriteType, h]

/-- An issued write leaves its entry with Referenced and Modified set (R63). -/
theorem Entry.markIssued_write (e : Entry) : e.markIssued .write = { e with referenced := true, modified := true } := by
  simp [Entry.markIssued, AccessKind.isWriteType]

/-- Settles O21: the issue takes the lowest free tag, and R99 decides on each reservation. -/
theorem writeIsIssuedAndClearsOthers : Obligations.WriteIsIssuedAndClearsOthers := by
  intro s r c bank addr hit g hfree hkind hlen
  refine ⟨_, passRequest_of_write s c bank addr hit hkind, ?_, ?_, ?_, resvAfterWrite_own s r bank addr, fun n hn => ?_⟩
  · rw [markEntry_eq, State.issue_eq s r c bank addr g hfree]
  · rw [State.markEntry_sys, State.issue_eq s r c bank addr g hfree, Request.downRequest_of_write r g bank addr hkind,
      Request.outRecord, hkind]
  · cases hit with
    | none => exact State.issue_cache ..
    | some i => simp only [State.markEntry, State.issue_cache, Entry.markIssued_write]
  · rw [resvAfterWrite_other s bank addr hlen hn]
    exact ⟨fun h => if_pos h, fun h => if_neg h⟩

end Sys2Proof.Machine
end

section
/-! The arguments of the host commands on the translation cache, and the register layouts they answer in (R60, R65, R74). -/

namespace Sys2Proof.Machine

/-! ### Arguments -/

theorem segArg_eq_some {w : Word} (h : 1 ≤ w.toNat ∧ w.toNat ≤ 0xFFFF) : segArg w = some (w.setWidth 16) := if_pos h

theorem segArg_eq_none {w : Word} (h : w.toNat = 0 ∨ 0xFFFF < w.toNat) : segArg w = none := if_neg (by omega)

theorem frameArg_eq_some {w : Word} (h : w.toNat ≤ 0xFFFFF) : frameArg w = some (BitVec.ofNat 20 w.toNat) := if_pos h

theorem frameArg_eq_none {w : Word} (h : 0xFFFFF < w.toNat) : frameArg w = none := if_neg (by omega)

theorem flagArg_eq_some {v : Nat} (h : v ≤ 1) : flagArg v = some (decide (v = 1)) := by
  obtain rfl | rfl := Nat.le_one_iff_eq_zero_or_eq_one.1 h <;> rfl

theorem flagArg_eq_none {v : Nat} (h : 1 < v) : flagArg v = none := by
  rw [flagArg, if_neg (by omega), if_neg (by omega)]

theorem levelArg_eq_some {v : Nat} (h : v ≤ 3) : levelArg v = some (BitVec.ofNat 2 v) := if_pos h

theorem levelArg_eq_none {v : Nat} (h : 3 < v) : levelArg v = none := if_neg (by omega)

/-- The code of a page type names it (R60). -/
theorem PageType.ofCode_eq_some {pt : PageType} {n : Nat} (h : pt.code = n) : PageType.ofCode n = some pt := by
  subst h; cases pt <;> rfl

theorem PageType.ofCode_eq_none {n : Nat} (h : 3 < n) : PageType.ofCode n = none := by
  unfold PageType.ofCode
  split
  case h_5 => rfl
  all_goals omega

/-- The code of a request kind names it (R65). -/
theorem AccessKind.ofCode_eq_some {k : AccessKind} {n : Nat} (h : k.code = n) : AccessKind.ofCode n = some k := by
  subst h; cases k <;> rfl

theorem AccessKind.ofCode_eq_none {n : Nat} (h : 4 < n) : AccessKind.ofCode n = none := by
  unfold AccessKind.ofCode
  split
  case h_6 => rfl
  all_goals omega

theorem FaultKind.code_eq (f : FaultKind) : f.code = faultNumber f := by cases f <;> rfl

/-! ### Layouts -/

theorem field_zero (n : Nat) : field n 0 = BitVec.ofNat 32 n := BitVec.shiftLeft_zero _

/-- A field above a number that ends below it adds its own value, which is in multiples of `v`. -/
theorem field_or_ofNat (n : Nat) {lo v m : Nat} (hv : 2 ^ lo = v) (hlo : lo < 32) (hn : n * v < 2 ^ 32) (hm : m < v) :
    field n lo ||| BitVec.ofNat 32 m = BitVec.ofNat 32 (n * v + m) := by
  subst hv
  have hm32 : (BitVec.ofNat 32 m).toNat = m :=
    Nat.mod_eq_of_lt (hm.trans (Nat.pow_lt_pow_right (by decide) hlo))
  have hsum : (field n lo ||| BitVec.ofNat 32 m).toNat = n * 2 ^ lo + m := by
    rw [BitVec.or_comm, toNat_or_field _ n lo hn (by rwa [hm32]), hm32, Nat.add_comm]
  rw [← hsum, BitVec.ofNat_toNat, BitVec.setWidth_eq]

/-- A flag above a number that ends below it. -/
theorem bit_or_ofNat (b : Bool) {lo v m : Nat} (hv : 2 ^ lo = v) (hlo : lo < 32) (hm : m < v) :
    bit b lo ||| BitVec.ofNat 32 m = BitVec.ofNat 32 ((if b then v else 0) + m) := by
  have hvalue : b.toNat * v = if b then v else 0 := by cases b <;> simp
  rw [bit, field_or_ofNat b.toNat hv hlo ?_ hm, hvalue]
  rw [hvalue, ← hv]
  split
  · exact Nat.pow_lt_pow_right (by decide) hlo
  · decide

/-- What the flags of an entry add to a register: Pinned in bit 0, Referenced in bit 1, Modified in bit 2 (R71, R74). -/
def Entry.flagValue (e : Entry) : Nat :=
  (if e.modified then 4 else 0) + (if e.referenced then 2 else 0) + (if e.pinned then 1 else 0)

theorem Entry.flagValue_lt (e : Entry) : e.flagValue < 8 := by
  unfold Entry.flagValue
  split_ifs <;> decide

theorem flags_eq_ofNat (e : Entry) :
    bit e.modified 2 ||| (bit e.referenced 1 ||| bit e.pinned 0) = BitVec.ofNat 32 e.flagValue := by
  rw [bit_zero_eq_ofNat, bit_or_ofNat (v := 2) _ rfl (by decide) (by split <;> decide),
    bit_or_ofNat (v := 4) _ rfl (by decide) (by split_ifs <;> decide), Entry.flagValue, Nat.add_assoc]

/-- The flags that PurgeEntry answers (R71). -/
theorem purgeFlags_eq (e : Entry) :
    e.purgeFlags = BitVec.ofNat 32
      ((if e.pinned then 1 else 0) + (if e.referenced then 2 else 0) + (if e.modified then 4 else 0) +
        (if e.state = .valid then 8 else 0)) := by
  have horder : e.purgeFlags = bit (decide (e.state = .valid)) 3 |||
      (bit e.modified 2 ||| (bit e.referenced 1 ||| bit e.pinned 0)) := by
    unfold Entry.purgeFlags
    ac_rfl
  rw [horder, flags_eq_ofNat, bit_or_ofNat (v := 8) _ rfl (by decide) e.flagValue_lt, Entry.flagValue]
  simp only [decide_eq_true_eq]
  congr 1
  omega

/-- Part 0 of an entry (R74). -/
theorem part0_eq (e : Entry) :
    e.part0 =
      (BitVec.ofNat 32 (e.key.seg.toNat * 65536 + (e.state.code * 256 + e.flagValue)),
        BitVec.ofNat 32 e.key.vpn.toNat) := by
  have hseg := e.key.seg.isLt
  have hflags := e.flagValue_lt
  have hcode : e.state.code ≤ 2 := by cases e.state <;> decide
  simp only [Entry.part0, BitVec.or_assoc, flags_eq_ofNat, field_zero]
  rw [field_or_ofNat (v := 256) _ rfl (by decide) (by omega) (by omega),
    field_or_ofNat (v := 65536) _ rfl (by decide) (by omega) (by omega)]

/-- Part 1 of an entry (R74). -/
theorem part1_eq (e : Entry) :
    e.part1 =
      (BitVec.ofNat 32 (e.bank.toNat * 0x1000000 + e.frame.toNat),
        BitVec.ofNat 32 (e.pid.toNat * 65536 + (e.pageType.code * 256 + (e.readLevel.toNat * 16 + e.writeLevel.toNat)))) := by
  have hbank := e.bank.isLt
  have hframe := e.frame.isLt
  have hpid := e.pid.isLt
  have hread := e.readLevel.isLt
  have hwrite := e.writeLevel.isLt
  have hcode : e.pageType.code ≤ 3 := by cases e.pageType <;> decide
  simp only [Entry.part1, BitVec.or_assoc, field_zero]
  rw [field_or_ofNat (v := 0x1000000) _ rfl (by decide) (by omega) (by omega),
    field_or_ofNat (v := 16) _ rfl (by decide) (by omega) (by omega),
    field_or_ofNat (v := 256) _ rfl (by decide) (by omega) (by omega),
    field_or_ofNat (v := 65536) _ rfl (by decide) (by omega) (by omega)]

end Sys2Proof.Machine
end

section
/-! ReadEntry and Probe, which change nothing (R65, R74, R75). -/

namespace Sys2Proof.Machine

/-! ### ReadEntry -/

theorem cmdReadEntry_of_out_of_range (s : State) {a : Vector Word 4} (h : 63 < a[0].toNat ∨ 1 < a[1].toNat) :
    s.cmdReadEntry a = s.fails .badArgument := by
  unfold State.cmdReadEntry
  rcases h with h | h
  · rw [finArg_eq_none 64 _ h]
  · rw [flagArg_eq_none h]
    split
    · contradiction
    · rfl

theorem cmdReadEntry_part0 (s : State) {a : Vector Word 4} {i : EntryId} (hi : a[0].toNat = i.val) (hp : a[1].toNat = 0) :
    s.cmdReadEntry a = ⟨s, .ok, s.cache.entries[i].part0.1, s.cache.entries[i].part0.2⟩ := by
  simp only [State.cmdReadEntry, finArg_eq_some i hi, hp]
  rfl

theorem cmdReadEntry_part1 (s : State) {a : Vector Word 4} {i : EntryId} (hi : a[0].toNat = i.val) (hp : a[1].toNat = 1) :
    s.cmdReadEntry a = ⟨s, .ok, s.cache.entries[i].part1.1, s.cache.entries[i].part1.2⟩ := by
  simp only [State.cmdReadEntry, finArg_eq_some i hi, hp]
  rfl

/-- Settles O32, by the part asked for. -/
theorem readEntryShowsLayout : Obligations.ReadEntryShowsLayout := by
  refine fun s a hhead => ⟨fun hrange => ?_, fun i hi e he => ⟨fun hp => ?_, fun hp => ?_⟩⟩
  · exact commandStep_of_body hhead (cmdReadEntry_of_out_of_range s hrange)
  · refine (commandStep_of_body hhead (cmdReadEntry_part0 s hi hp)).trans ?_
    rw [← he, part0_eq, Entry.flagValue]
    cases e.state <;> simp only [EntryState.code, Nat.add_assoc, Nat.reduceMul]
  · refine (commandStep_of_body hhead (cmdReadEntry_part1 s hi hp)).trans ?_
    rw [← he, part1_eq]
    cases e.pageType <;> simp only [PageType.code, Nat.add_assoc, Nat.reduceMul]

/-! ### Probe -/

theorem cmdProbe_of_out_of_range (s : State) {a : Vector Word 4} (h : 15 < a[0].toNat ∨ 4 < a[2].toNat) :
    s.cmdProbe a = s.fails .badArgument := by
  unfold State.cmdProbe
  rcases h with h | h
  · rw [finArg_eq_none 16 _ h]
  · rw [AccessKind.ofCode_eq_none h]
    split
    · contradiction
    · rfl

theorem cmdProbe_of_in_range (s : State) {a : Vector Word 4} {c : ContextId} {k : AccessKind} (hc : a[0].toNat = c.val)
    (hk : k.code = a[2].toNat) {v : Verdict} (hv : s.contexts[c].checks s.cache.entries k a[1] = v) :
    s.cmdProbe a = s.probeAnswer v := by
  simp only [State.cmdProbe, finArg_eq_some c hc, AccessKind.ofCode_eq_some hk, hv]

/-- The answer of Probe to each end of the checks (R75, R115). -/
theorem probeAnswer_pass (s : State) (b : BitVec 4) (phys : Word) (hit : Option EntryId) :
    s.probeAnswer (.pass b phys hit) = ⟨s, .ok, phys, BitVec.ofNat 32 b.toNat⟩ := by
  rw [State.probeAnswer, field_zero]

theorem probeAnswer_fault_none (s : State) (f : FaultKind) :
    s.probeAnswer (.fault f none) = ⟨s, .faulted, BitVec.ofNat 32 (faultNumber f), 0⟩ := by
  rw [State.probeAnswer, field_zero, FaultKind.code_eq]

theorem probeAnswer_fault_some (s : State) (f : FaultKind) (i : EntryId) :
    s.probeAnswer (.fault f (some i)) =
      ⟨s, .faulted, BitVec.ofNat 32 (faultNumber f), BitVec.ofNat 32 (i.val + 1)⟩ := by
  rw [State.probeAnswer, field_zero, field_zero, FaultKind.code_eq]

/-- Settles O33, by how the checks end. -/
theorem probeReportsChecks : Obligations.ProbeReportsChecks := by
  refine fun s a hhead => ⟨fun hrange => commandStep_of_body hhead (cmdProbe_of_out_of_range s hrange),
    fun c k hc hcode => ?_⟩
  have hk : k.code = a[2].toNat := by rw [← hcode]; cases k <;> rfl
  refine ⟨fun b phys hit hv => ?_, fun key hv => ?_, fun f hv => ?_, fun f i hv => ?_⟩
  · exact commandStep_of_body hhead ((cmdProbe_of_in_range s hc hk hv).trans (probeAnswer_pass ..))
  · exact commandStep_of_body hhead (cmdProbe_of_in_range s hc hk hv)
  · exact commandStep_of_body hhead ((cmdProbe_of_in_range s hc hk hv).trans (probeAnswer_fault_none ..))
  · exact commandStep_of_body hhead ((cmdProbe_of_in_range s hc hk hv).trans (probeAnswer_fault_some ..))

end Sys2Proof.Machine
end

section
/-! The host commands that change the translation cache: InsertAddress, InsertRights and the purges, each body by its arguments
(R65 to R73). -/

namespace Sys2Proof.Machine

/-! ### InsertAddress -/

theorem cmdInsertAddress_of_out_of_range (s : State) {a : Vector Word 4}
    (h : ¬ (KeyInRange a[0] a[1] ∧ a[2].toNat ≤ 0xFFFFF ∧ a[3].toNat % 65536 ≤ 15 ∧ a[3].toNat / 65536 ≤ 1)) :
    s.cmdInsertAddress a = s.fails .badArgument := by
  unfold State.cmdInsertAddress
  rw [lowHalf_eq, highHalf_eq]
  split
  · rename_i hkey hframe hbank hpin
    refine absurd ⟨?_, ?_, ?_, ?_⟩ h
    · by_contra hno; rw [keyArg_eq_none hno] at hkey; cases hkey
    · by_contra hno; rw [frameArg_eq_none (by omega)] at hframe; cases hframe
    · by_contra hno; rw [finArg_eq_none 16 _ (by omega)] at hbank; cases hbank
    · by_contra hno; rw [flagArg_eq_none (by omega)] at hpin; cases hpin
  · rfl

theorem cmdInsertAddress_of_in_range (s : State) {a : Vector Word 4}
    (h : KeyInRange a[0] a[1] ∧ a[2].toNat ≤ 0xFFFFF ∧ a[3].toNat % 65536 ≤ 15 ∧ a[3].toNat / 65536 ≤ 1) :
    s.cmdInsertAddress a = s.insertAddress (keyNamed a[0] a[1]) (BitVec.ofNat 4 (a[3].toNat % 65536))
      (BitVec.ofNat 20 a[2].toNat) (decide (a[3].toNat / 65536 = 1)) := by
  obtain ⟨hkey, hframe, hbank, hpin⟩ := h
  have hbank : finArg 16 (a[3].toNat % 65536) = some ⟨a[3].toNat % 65536, by omega⟩ := finArg_eq_some _ rfl
  simp only [State.cmdInsertAddress, lowHalf_eq, highHalf_eq, keyArg_eq_some hkey, frameArg_eq_some hframe, hbank,
    flagArg_eq_some hpin]

section
variable {s : State} {k : Key} (b : BitVec 4) (f : BitVec 20) (p : Bool) {i : EntryId}

/-- The entry of the key is re-used, and the frame it held loses its reservations (R67). -/
theorem insertAddress_of_keyAt (h : s.KeyAt k i) :
    s.insertAddress k b f p =
      ⟨{ s with
          resv := (s.clearFrame s.cache.entries[i].bank s.cache.entries[i].frame).resv
          cache := { s.cache with entries := s.cache.entries.set i (Entry.addressed k b f p) } }, .ok,
        BitVec.ofNat 32 i.val, 0⟩ := by
  simp only [State.insertAddress, holder_eq_some h]
  rfl

/-- The lowest Empty entry is taken (R68). -/
theorem insertAddress_of_empty (h : s.KeyAbsent k) (hempty : s.cache.entries[i].state = .empty)
    (hlow : ∀ j : EntryId, j < i → s.cache.entries[j].state ≠ .empty) :
    s.insertAddress k b f p =
      ⟨{ s with cache := { s.cache with entries := s.cache.entries.set i (Entry.addressed k b f p) } }, .ok,
        BitVec.ofNat 32 i.val, 1⟩ := by
  have hfound : findIdx (fun e : Entry => decide (e.state = .empty)) s.cache.entries = some i :=
    (findIdx_eq_some ..).2 ⟨decide_eq_true hempty, fun j hj => decide_eq_false (hlow j hj)⟩
  simp only [State.insertAddress, holder_eq_none h, hfound]
  rfl

theorem findIdx_empty_eq_none (hfull : ∀ j : EntryId, s.cache.entries[j].state ≠ .empty) :
    findIdx (fun e : Entry => decide (e.state = .empty)) s.cache.entries = none :=
  (findIdx_eq_none ..).2 fun j => decide_eq_false (hfull j)

/-- The victim is the first unpinned entry from the replacement pointer on (R68, R70). -/
theorem victim_eq_some (c : TransCache) (hpin : c.entries[i].pinned = false)
    (hfirst : ∀ k : EntryId, k < i - c.pointer → c.entries[c.pointer + k].pinned = true) : c.victim = some i :=
  (find_rotation_eq_some ..).2 ⟨by rw [hpin]; rfl, fun k hk => by rw [hfirst k hk]; rfl⟩

theorem victim_eq_none (c : TransCache) (hpin : ∀ i : EntryId, c.entries[i].pinned = true) : c.victim = none :=
  (find_rotation_eq_none ..).2 fun i => by rw [hpin i]; rfl

/-- The victim is taken, its frame loses its reservations and the pointer moves past it (R68, R70). -/
theorem insertAddress_of_victim (h : s.KeyAbsent k) (hfull : ∀ j : EntryId, s.cache.entries[j].state ≠ .empty)
    (hvictim : s.cache.victim = some i) :
    s.insertAddress k b f p =
      ⟨{ s with
          resv := (s.clearFrame s.cache.entries[i].bank s.cache.entries[i].frame).resv
          cache := { entries := s.cache.entries.set i (Entry.addressed k b f p), pointer := i + 1 } }, .ok,
        BitVec.ofNat 32 i.val, 2⟩ := by
  simp only [State.insertAddress, holder_eq_none h, findIdx_empty_eq_none hfull, hvictim]
  rfl

theorem insertAddress_of_no_victim (h : s.KeyAbsent k) (hfull : ∀ j : EntryId, s.cache.entries[j].state ≠ .empty)
    (hvictim : s.cache.victim = none) : s.insertAddress k b f p = s.fails .noFreeEntry := by
  simp only [State.insertAddress, holder_eq_none h, findIdx_empty_eq_none hfull, hvictim]

end

/-- Settles O29, by the entry that is chosen. -/
theorem insertAddressChoosesEntry : Obligations.InsertAddressChoosesEntry := by
  refine fun s a hhead => ⟨fun hrange => ?_, ?_⟩
  · exact commandStep_of_body hhead (cmdInsertAddress_of_out_of_range s hrange)
  rintro hrange e rfl
  have hbody := cmdInsertAddress_of_in_range s hrange
  refine ⟨fun i hat => ?_, fun habsent => ⟨fun i hempty hlow => ?_, fun hfull => ⟨fun i hpin hfirst => ?_, fun hpinned => ?_⟩⟩⟩
  · exact ⟨_, clearFrame_framesCleared s _ _, commandStep_of_body hhead (hbody.trans (insertAddress_of_keyAt _ _ _ hat))⟩
  · exact commandStep_of_body hhead (hbody.trans (insertAddress_of_empty _ _ _ habsent hempty hlow))
  · exact ⟨_, clearFrame_framesCleared s _ _, commandStep_of_body hhead
      (hbody.trans (insertAddress_of_victim _ _ _ habsent hfull (victim_eq_some _ hpin hfirst)))⟩
  · exact commandStep_of_body hhead
      (hbody.trans (insertAddress_of_no_victim _ _ _ habsent hfull (victim_eq_none _ hpinned)))

/-! ### InsertRights -/

theorem cmdInsertRights_of_out_of_range (s : State) {a : Vector Word 4}
    (h : ¬ (KeyInRange a[0] a[1] ∧ a[2].toNat % 65536 ≤ 3 ∧ a[3].toNat % 65536 ≤ 3 ∧ a[3].toNat / 65536 ≤ 3)) :
    s.cmdInsertRights a = s.fails .badArgument := by
  unfold State.cmdInsertRights
  rw [lowHalf_eq, lowHalf_eq, highHalf_eq]
  split
  · rename_i hkey htype hread hwrite
    refine absurd ⟨?_, ?_, ?_, ?_⟩ h
    · by_contra hno; rw [keyArg_eq_none hno] at hkey; cases hkey
    · by_contra hno; rw [PageType.ofCode_eq_none (by omega)] at htype; cases htype
    · by_contra hno; rw [levelArg_eq_none (by omega)] at hread; cases hread
    · by_contra hno; rw [levelArg_eq_none (by omega)] at hwrite; cases hwrite
  · rfl

theorem cmdInsertRights_of_in_range (s : State) {a : Vector Word 4} {pt : PageType} (hkey : KeyInRange a[0] a[1])
    (hpt : pt.code = a[2].toNat % 65536) (hread : a[3].toNat % 65536 ≤ 3) (hwrite : a[3].toNat / 65536 ≤ 3) :
    s.cmdInsertRights a = s.insertRights (keyNamed a[0] a[1]) pt (BitVec.ofNat 2 (a[3].toNat % 65536))
      (BitVec.ofNat 2 (a[3].toNat / 65536)) (BitVec.ofNat 16 (a[2].toNat / 65536)) := by
  simp only [State.cmdInsertRights, lowHalf_eq, highHalf_eq, keyArg_eq_some hkey, PageType.ofCode_eq_some hpt,
    levelArg_eq_some hread, levelArg_eq_some hwrite]

/-- Every number up to 3 is the code of a page type (R60). -/
theorem PageType.exists_code {n : Nat} (h : n ≤ 3) : ∃ pt : PageType, pt.code = n := by
  interval_cases n
  · exact ⟨.dataRead, rfl⟩
  · exact ⟨.dataWrite, rfl⟩
  · exact ⟨.fetch, rfl⟩
  · exact ⟨.fetchOnly, rfl⟩

theorem insertRights_of_keyAbsent {s : State} {k : Key} (h : s.KeyAbsent k) (pt : PageType) (rl wl : BitVec 2)
    (pid : BitVec 16) : s.insertRights k pt rl wl pid = s.fails .notFound := by
  simp only [State.insertRights, holder_eq_none h]

theorem Parked.under_eq (k : Key) : Parked.under k = fun p => p.item.key == k := rfl

/-- The entry of the key gets its rights, and the key's records are released (R69, R87). -/
theorem insertRights_of_keyAt {s : State} {k : Key} {i : EntryId} (h : s.KeyAt k i) (pt : PageType) (rl wl : BitVec 2)
    (pid : BitVec 16) :
    s.insertRights k pt rl wl pid =
      ⟨{ s with
          cache := { s.cache with entries := s.cache.entries.set i (s.cache.entries[i].withRights pt rl wl pid) }
          miss := s.miss.remove fun p => p.item.key == k
          dp := { s.dp with replay := s.dp.replay ++ (s.miss.parked.filter fun p => p.item.key == k).map (·.item) } }, .ok,
        BitVec.ofNat 32 (s.miss.parked.filter fun p => p.item.key == k).length, BitVec.ofNat 32 i.val⟩ := by
  simp only [State.insertRights, holder_eq_some h, List.countP_eq_length_filter, Parked.under_eq, State.releaseKey]
  rfl

/-- Settles O30, by whether some entry has the key. -/
theorem insertRightsMakesValidAndReleases : Obligations.InsertRightsMakesValidAndReleases := by
  refine fun s a hhead => ⟨fun hrange => ?_, fun ⟨hkey, htype, hread, hwrite⟩ => ⟨fun habsent => ?_, fun i hat pt hpt => ?_⟩⟩
  · exact commandStep_of_body hhead (cmdInsertRights_of_out_of_range s hrange)
  · obtain ⟨pt, hpt⟩ := PageType.exists_code htype
    exact commandStep_of_body hhead
      ((cmdInsertRights_of_in_range s hkey hpt hread hwrite).trans (insertRights_of_keyAbsent habsent ..))
  · exact ⟨_, MissBlock.remove_removedFrom _ _, commandStep_of_body hhead
      ((cmdInsertRights_of_in_range s hkey hpt hread hwrite).trans (insertRights_of_keyAt hat ..))⟩

/-! ### PurgeEntry -/

theorem cmdPurgeEntry_of_out_of_range (s : State) {a : Vector Word 4} (h : ¬ KeyInRange a[0] a[1]) :
    s.cmdPurgeEntry a = s.fails .badArgument := by
  simp only [State.cmdPurgeEntry, keyArg_eq_none h]

theorem cmdPurgeEntry_of_keyAbsent {s : State} {a : Vector Word 4} (h : KeyInRange a[0] a[1])
    (habsent : s.KeyAbsent (keyNamed a[0] a[1])) : s.cmdPurgeEntry a = s.fails .notFound := by
  simp only [State.cmdPurgeEntry, keyArg_eq_some h, holder_eq_none habsent]

theorem cmdPurgeEntry_of_keyAt {s : State} {a : Vector Word 4} (h : KeyInRange a[0] a[1]) {i : EntryId}
    (hat : s.KeyAt (keyNamed a[0] a[1]) i) :
    s.cmdPurgeEntry a =
      ⟨{ s with
          resv := (s.clearFrame s.cache.entries[i].bank s.cache.entries[i].frame).resv
          cache := { s.cache with entries := s.cache.entries.set i Entry.cleared } }, .ok, BitVec.ofNat 32 i.val,
        s.cache.entries[i].purgeFlags⟩ := by
  simp only [State.cmdPurgeEntry, keyArg_eq_some h, holder_eq_some hat]
  rfl

/-! ### PurgeSegment and PurgeAll -/

theorem cmdPurgeSegment_of_out_of_range (s : State) {a : Vector Word 4} (h : a[0].toNat = 0 ∨ 0xFFFF < a[0].toNat) :
    s.cmdPurgeSegment a = s.fails .badArgument := by
  simp only [State.cmdPurgeSegment, segArg_eq_none h]

theorem cmdPurgeSegment_of_in_range (s : State) {a : Vector Word 4} (h : 1 ≤ a[0].toNat ∧ a[0].toNat ≤ 0xFFFF) :
    s.cmdPurgeSegment a = s.purgeMany fun e => decide (e.key.seg = a[0].setWidth 16) := by
  simp only [State.cmdPurgeSegment, segArg_eq_some h]

theorem cmdPurgeAll_of_out_of_range (s : State) {a : Vector Word 4} (h : 1 < a[0].toNat) :
    s.cmdPurgeAll a = s.fails .badArgument := by
  simp only [State.cmdPurgeAll, flagArg_eq_none h]

theorem cmdPurgeAll_of_in_range (s : State) {a : Vector Word 4} (h : a[0].toNat ≤ 1) :
    s.cmdPurgeAll a = s.purgeMany fun e => decide (a[0].toNat = 1) || !e.pinned := by
  simp only [State.cmdPurgeAll, flagArg_eq_some h]

/-- The cache entries after those that satisfy `p` are emptied. -/
def State.purged (s : State) (p : Entry → Bool) : Vector Entry 64 :=
  mapIdx (fun _ e => if p e then Entry.cleared else e) s.cache.entries

theorem purged_getElem (s : State) (p : Entry → Bool) (i : EntryId) :
    (s.purged p)[i] = if p s.cache.entries[i] then Entry.cleared else s.cache.entries[i] := mapIdx_fin ..

section
variable {q p : Entry → Bool} (h : p = fun e => decide (e.state ≠ .empty) && q e)
include h

/-- A purge clears the reservations of the frames of the entries it empties (R66). -/
theorem purgeWhere_framesCleared (s : State) :
    s.FramesCleared (fun b f => ∃ i : EntryId, p s.cache.entries[i] = true ∧ b = s.cache.entries[i].bank ∧
      f = s.cache.entries[i].frame) (s.purgeWhere q).resv := by
  subst h
  rw [State.purgeWhere_resv]
  refine clearReservationsWhere_framesCleared s _ _ fun _ r => ?_
  rw [List.any_eq_true]
  constructor
  · rintro ⟨i, -, hi⟩
    rw [Bool.and_assoc, Bool.and_eq_true, inFrame_iff] at hi
    exact ⟨_, _, ⟨i, hi.1, rfl, rfl⟩, hi.2⟩
  · rintro ⟨_, _, ⟨i, hi, rfl, rfl⟩, hframe⟩
    refine ⟨i, List.mem_finRange i, ?_⟩
    rw [Bool.and_assoc, Bool.and_eq_true, inFrame_iff]
    exact ⟨hi, hframe⟩

/-- A purge answers how many entries it empties and how many of them were modified (R72, R73). -/
theorem purgeMany_eq (s : State) :
    s.purgeMany q =
      ⟨{ s with resv := (s.purgeWhere q).resv, cache := { s.cache with entries := s.purged p } }, .ok,
        BitVec.ofNat 32 ((List.finRange 64).filter fun i => p s.cache.entries[i]).length,
        BitVec.ofNat 32 ((List.finRange 64).filter fun i => p s.cache.entries[i] && s.cache.entries[i].modified).length⟩ := by
  subst h
  simp only [State.purgeMany, countIdx, List.countP_eq_length_filter]
  rfl

end

/-- The entries that PurgeSegment empties (R72). -/
theorem purgeSegment_selects {w : Word} (h : w.toNat ≤ 0xFFFF) :
    (fun e : Entry => e.state != .empty && e.key.seg.toNat == w.toNat) =
      fun e => decide (e.state ≠ .empty) && decide (e.key.seg = w.setWidth 16) := by
  have hseg : (w.setWidth 16).toNat = w.toNat := by rw [BitVec.toNat_setWidth]; omega
  funext e
  rw [Bool.eq_iff_iff]
  simp only [Bool.and_eq_true, bne_iff_ne, beq_iff_eq, decide_eq_true_eq, ← BitVec.toNat_inj, hseg]

/-- The entries that PurgeAll empties (R73). -/
theorem purgeAll_selects (v : Nat) :
    (fun e : Entry => e.state != .empty && (v == 1 || !e.pinned)) =
      fun e => decide (e.state ≠ .empty) && (decide (v = 1) || !e.pinned) := by
  funext e
  rw [Bool.eq_iff_iff]
  simp only [Bool.and_eq_true, Bool.or_eq_true, bne_iff_ne, beq_iff_eq, decide_eq_true_eq]

/-- A row whose body is a purge ends as R72 and R73 say. -/
theorem purge_answers {s : State} {k : Byte} {a : Vector Word 4} (hhead : s.CommandAtHead k a)
    {body : Vector Word 4 → CmdResult} {q p : Entry → Bool} (hbody : body a = s.purgeMany q)
    (hp : p = fun e => decide (e.state ≠ .empty) && q e) :
    ∃ (v : Vector Reservation 8) (entries : Vector Entry 64),
      s.FramesCleared (fun b f => ∃ i : EntryId, p s.cache.entries[i] = true ∧ b = s.cache.entries[i].bank ∧
        f = s.cache.entries[i].frame) v ∧
      (∀ i : EntryId, entries[i] = if p s.cache.entries[i] then Entry.cleared else s.cache.entries[i]) ∧
      (.next (s.commandStep (· == k) body) : Answer) = .next (State.afterCommand
        { s with resv := v, cache := { s.cache with entries := entries } } k .ok
        (BitVec.ofNat 32 ((List.finRange 64).filter fun i => p s.cache.entries[i]).length)
        (BitVec.ofNat 32 ((List.finRange 64).filter fun i => p s.cache.entries[i] && s.cache.entries[i].modified).length)) :=
  ⟨_, _, purgeWhere_framesCleared hp s, purged_getElem s p, commandStep_of_body hhead (hbody.trans (purgeMany_eq hp s))⟩

/-- Settles O31, each purge by its arguments. -/
theorem purgesEmptyTheirEntries : Obligations.PurgesEmptyTheirEntries := by
  refine ⟨fun s a hhead => ⟨fun hrange => ?_, fun hrange habsent => ?_, fun hrange i hat => ?_⟩,
    fun s a => ⟨fun hhead hrange => ?_, fun hhead hrange => ?_, ?_⟩⟩
  · exact commandStep_of_body hhead (cmdPurgeEntry_of_out_of_range s hrange)
  · exact commandStep_of_body hhead (cmdPurgeEntry_of_keyAbsent hrange habsent)
  · refine ⟨_, clearFrame_framesCleared s _ _, ?_⟩
    rw [← purgeFlags_eq]
    exact commandStep_of_body hhead (cmdPurgeEntry_of_keyAt hrange hat)
  · exact commandStep_of_body hhead (cmdPurgeSegment_of_out_of_range s hrange)
  · exact commandStep_of_body hhead (cmdPurgeAll_of_out_of_range s hrange)
  · rintro c k p (⟨rfl, rfl, hmin, hmax, rfl⟩ | ⟨rfl, rfl, hrange, rfl⟩) hhead
    · exact purge_answers hhead (cmdPurgeSegment_of_in_range s ⟨hmin, hmax⟩) (purgeSegment_selects hmax)
    · exact purge_answers hhead (cmdPurgeAll_of_in_range s hrange) (purgeAll_selects a[0].toNat)

end Sys2Proof.Machine
end

section
/-! The miss page set and the reports of its members: each step of the miss parking block keeps one member for each parked key,
with exactly the report its state says (R79, R80, R84). -/

namespace Sys2Proof.Machine

/-! ### The two invariants, as facts on the block -/

/-- The miss page set has exactly one member for each parked key, and the parked list is in admission order (R79, R80). -/
structure MissBlock.SetSound (m : MissBlock) : Prop where
  membersParked : m.MembersParked
  hasMember : ∀ p ∈ m.parked, p.item.key ∈ m.members.map (·.key)
  ordered : m.parked.Pairwise fun p q => p.item.ord ≤ q.item.ord

/-- The keys of the reports of a queue that belong to a member. -/
def reportKeys (q : List Report) : List Key := (q.filter fun r => !r.notParked).map (·.key)

/-- A latch holds the report of the member of the key, not Resolved. -/
def Presents (latch : Option Latched) (k : Key) : Prop :=
  ∃ l ∈ latch, l.resolved = false ∧ l.report.OfMember ∧ l.report.key = k

/-- The queue and the latch hold exactly the reports that the states of the members say (R80). -/
structure MissBlock.ReportsMatch (m : MissBlock) : Prop where
  nodup : (reportKeys m.queue).Nodup
  queued : ∀ k, k ∈ reportKeys m.queue ↔ ⟨k, .queued⟩ ∈ m.members
  presented : ∀ k, Presents m.latch k ↔ ⟨k, .presented⟩ ∈ m.members

/-- An empty latch goes with an empty queue (R84). -/
def MissBlock.LatchFirst (m : MissBlock) : Prop := m.latch = none → m.queue = []

/-- The page set and the reports of the block are sound (R79, R80, R84). -/
structure MissBlock.Sound (m : MissBlock) : Prop extends m.SetSound, m.ReportsMatch where
  latchFirst : m.LatchFirst

theorem mem_reportKeys {q : List Report} {k : Key} : k ∈ reportKeys q ↔ ∃ r ∈ q, r.OfMember ∧ r.key = k := by
  simp [reportKeys, and_assoc]

theorem reportKeys_cons (r : Report) (q : List Report) :
    reportKeys (r :: q) = if r.notParked then reportKeys q else r.key :: reportKeys q := by
  cases hr : r.notParked <;> simp [reportKeys, hr]

theorem reportKeys_append (q q' : List Report) : reportKeys (q ++ q') = reportKeys q ++ reportKeys q' := by
  simp [reportKeys]

theorem not_presents_none (k : Key) : ¬ Presents none k := fun ⟨_, hl, _⟩ => nomatch hl

theorem presents_some {l : Latched} {k : Key} :
    Presents (some l) k ↔ l.resolved = false ∧ l.report.OfMember ∧ l.report.key = k := by
  simp [Presents]

theorem mem_members_iff {m : MissBlock} {k : Key} {st : ReportState} :
    ⟨k, st⟩ ∈ m.members ↔ ∃ x ∈ m.members, x.key = k ∧ x.state = st :=
  ⟨fun h => ⟨_, h, rfl, rfl⟩, fun ⟨_, hx, hk, hst⟩ => hk ▸ hst ▸ hx⟩

theorem missSound_iff (s : State) : s.miss.Sound ↔ s.PageSetSound ∧ s.ReportsSound := by
  constructor
  · rintro ⟨⟨hmembers, hhas, hord⟩, ⟨hnodup, hqueued, hpresented⟩, hlatch⟩
    refine ⟨⟨hmembers.1, fun x hx => hmembers.2 x.key (List.mem_map_of_mem hx), fun p hp => List.mem_map.1 (hhas p hp), hord⟩,
      hnodup, fun r hr hmem => ?_, fun x hx hst => ?_, fun l hl hres hmem => ?_, fun x hx hst => ?_, hlatch⟩
    · exact mem_members_iff.1 ((hqueued r.key).1 (mem_reportKeys.2 ⟨r, hr, hmem, rfl⟩))
    · exact mem_reportKeys.1 ((hqueued x.key).2 (hst ▸ hx))
    · exact mem_members_iff.1 ((hpresented _).1 ⟨l, hl, hres, hmem, rfl⟩)
    · exact (hpresented x.key).2 (hst ▸ hx)
  · rintro ⟨⟨hkeys, hparked, hhas, hord⟩, hnodup, hqueue, hqueued, hlatched, hpresented, hlatch⟩
    refine ⟨⟨⟨hkeys, fun k hk => ?_⟩, fun p hp => List.mem_map.2 (hhas p hp), hord⟩,
      ⟨hnodup, fun k => ⟨fun hk => ?_, fun hk => mem_reportKeys.2 (hqueued _ hk rfl)⟩,
        fun k => ⟨?_, fun hk => hpresented _ hk rfl⟩⟩, hlatch⟩
    · obtain ⟨x, hx, rfl⟩ := List.mem_map.1 hk
      exact hparked x hx
    · obtain ⟨r, hr, hmem, rfl⟩ := mem_reportKeys.1 hk
      exact mem_members_iff.2 (hqueue r hr hmem)
    · rintro ⟨l, hl, hres, hmem, rfl⟩
      exact mem_members_iff.2 (hlatched l hl hres hmem)

/-! ### The page set under the steps of the block -/

/-- The keys of the members and the parked list fix it. -/
theorem MissBlock.SetSound.congr {m m' : MissBlock} (h : m.SetSound)
    (hkeys : m'.members.map (·.key) = m.members.map (·.key)) (hparked : m'.parked = m.parked) : m'.SetSound where
  membersParked := h.membersParked.congr hkeys fun p hp => ⟨p, hparked ▸ hp, rfl⟩
  hasMember := by rw [hkeys, hparked]; exact h.hasMember
  ordered := hparked ▸ h.ordered

/-- A record placed by its admission order leaves the list in admission order (R79). -/
theorem insertByOrder_ordered (p : Parked) {l : List Parked} (h : l.Pairwise fun p q => p.item.ord ≤ q.item.ord) :
    (insertByOrder p l).Pairwise fun p q => p.item.ord ≤ q.item.ord := by
  induction l with
  | nil => exact List.pairwise_singleton ..
  | cons q qs ih =>
    obtain ⟨hq, hqs⟩ := List.pairwise_cons.1 h
    unfold insertByOrder
    split_ifs with hlt
    · refine List.pairwise_cons.2 ⟨fun x hx => ?_, h⟩
      rcases List.mem_cons.1 hx with rfl | hx
      · exact hlt.le
      · exact hlt.le.trans (hq x hx)
    · refine List.pairwise_cons.2 ⟨fun x hx => ?_, ih hqs⟩
      rcases mem_insertByOrder.1 hx with rfl | hx
      · exact not_lt.1 hlt
      · exact hq x hx

@[simp] theorem addMember_keys (m : MissBlock) (k : Key) (st : ReportState) :
    (m.addMember k st).members.map (·.key) = m.members.map (·.key) ++ [k] := List.map_append

/-- Parking gives a key without a member one, and changes no other (R80, R81). -/
theorem mem_park_keys (m : MissBlock) (r : MissItem) {k : Key} :
    k ∈ (m.park r).1.members.map (·.key) ↔ k = r.key ∨ k ∈ m.members.map (·.key) := by
  unfold MissBlock.park
  dsimp only
  split_ifs with hmem
  · have hold : r.key ∈ m.members.map (·.key) := List.mem_map.2 ((hasMember_iff m r.key).1 hmem)
    exact ⟨.inr, fun h => h.elim (· ▸ hold) id⟩
  · simp only [enter_keys, addMember_keys, List.mem_append, List.mem_singleton, or_comm]
  · simp only [addMember_keys, List.mem_append, List.mem_singleton, or_comm]

theorem MissBlock.SetSound.park {m : MissBlock} (h : m.SetSound) (r : MissItem) : (m.park r).1.SetSound where
  membersParked := h.membersParked.park r
  hasMember p hp := by
    rw [park_parked, mem_insertByOrder] at hp
    rw [mem_park_keys]
    rcases hp with rfl | hp
    · exact .inl rfl
    · exact .inr (h.hasMember p hp)
  ordered := park_parked m r ▸ insertByOrder_ordered _ h.ordered

theorem MissBlock.SetSound.remove {m : MissBlock} (h : m.SetSound) (p : Parked → Bool) : (m.remove p).SetSound where
  membersParked := (MissStep.remove p).membersParked h.membersParked
  hasMember q hq := by
    obtain ⟨hparked, hmembers, -⟩ := MissBlock.remove_removedFrom m p
    have hold : q ∈ m.parked := List.mem_of_mem_filter (hparked ▸ hq)
    obtain ⟨x, hx, hk⟩ := List.mem_map.1 (h.hasMember q hold)
    rw [hmembers]
    exact List.mem_map.2 ⟨x, List.mem_filter.2 ⟨hx, List.any_eq_true.2 ⟨q, hq, by simp [hk]⟩⟩, hk⟩
  ordered := h.ordered.sublist List.filter_sublist

@[simp] theorem pop_keys (m : MissBlock) : m.pop.members.map (·.key) = m.members.map (·.key) := by
  unfold MissBlock.pop
  split
  · rfl
  · rw [present_keys]; split
    · rfl
    · exact setMember_keys ..

theorem MissStep.setSound {m m' : MissBlock} (h : MissStep m m') (hm : m.SetSound) : m'.SetSound := by
  cases h with
  | clear => exact ⟨⟨List.nodup_nil, by simp⟩, by simp, .nil⟩
  | park r => exact hm.park r
  | report r => exact hm.congr (enter_keys ..) (enter_parked ..)
  | lose => exact hm.congr rfl rfl
  | age =>
    refine ⟨MissStep.age.membersParked hm.membersParked, fun p hp => ?_, List.pairwise_map.2 hm.ordered⟩
    obtain ⟨q, hq, rfl⟩ := List.mem_map.1 hp
    exact hm.hasMember q hq
  | remove p => exact hm.remove p
  | pop => exact hm.congr (pop_keys m) (pop_parked m)
  | reportMember p => exact hm.congr ((enter_keys ..).trans (setMember_keys ..)) (enter_parked ..)

/-! ### A report goes on into the latch -/

/-- The members after those of one key have moved to a state. -/
theorem mem_setMember {m : MissBlock} {k k' : Key} {st st' : ReportState} :
    ⟨k', st'⟩ ∈ (m.setMember k st).members ↔
      if k' = k then st' = st ∧ k ∈ m.members.map (·.key) else ⟨k', st'⟩ ∈ m.members := by
  simp only [MissBlock.setMember, List.mem_map]
  constructor
  · rintro ⟨x, hx, he⟩
    by_cases hk : x.key = k
    · rw [if_pos hk] at he
      cases he
      exact (if_pos hk).symm ▸ ⟨rfl, x, hx, hk⟩
    · rw [if_neg hk] at he
      cases he
      rwa [if_neg hk]
  · split_ifs with hk
    · rintro ⟨rfl, x, hx, rfl⟩
      exact ⟨x, hx, by rw [if_pos rfl, hk]⟩
    · exact fun hx => ⟨_, hx, if_neg hk⟩

/-- A key with a member in some state is the key of a member. -/
theorem mem_keys {m : MissBlock} {k : Key} {st : ReportState} (h : ⟨k, st⟩ ∈ m.members) : k ∈ m.members.map (·.key) :=
  List.mem_map.2 ⟨_, h, rfl⟩

/-- With a report in the latch, or none in the queue, nothing moves (R84). -/
theorem present_of_still {m : MissBlock} (h : m.latch ≠ none ∨ m.queue = []) : m.present = m := by
  unfold MissBlock.present
  split
  · rename_i hl hq
    simp [hl, hq] at h
  · rfl

/-- The head of the queue goes on into an empty latch, its member becoming Presented (R84). -/
theorem present_of_cons {m : MissBlock} (hl : m.latch = none) {r : Report} {rest : List Report} (hq : m.queue = r :: rest) :
    m.present =
      { (if r.notParked then m else m.setMember r.key .presented) with queue := rest, latch := some ⟨r, false⟩ } := by
  unfold MissBlock.present
  rw [hl, hq]
  cases hr : r.notParked <;> simp [hr, MissBlock.setMember]

/-- The move of the queue's head into an empty latch keeps members and reports matched, and leaves no empty latch before a
queue (R84). -/
theorem MissBlock.ReportsMatch.present {m : MissBlock} (h : m.ReportsMatch) :
    m.present.ReportsMatch ∧ m.present.LatchFirst := by
  by_cases hstill : m.latch ≠ none ∨ m.queue = []
  · rw [present_of_still hstill]
    exact ⟨h, fun hl => hstill.resolve_left (not_not_intro hl)⟩
  · push Not at hstill
    obtain ⟨hl, hne⟩ := hstill
    obtain ⟨r, rest, hq⟩ := List.exists_cons_of_ne_nil hne
    obtain ⟨hnodup, hqueued, hpresented⟩ := h
    have hnone (k : Key) : ⟨k, .presented⟩ ∉ m.members := by
      rw [← hpresented, hl]
      exact not_presents_none k
    rw [present_of_cons hl hq]
    refine ⟨?_, fun hlatch => nomatch hlatch⟩
    rw [hq, reportKeys_cons] at hnodup hqueued
    cases hr : r.notParked with
    | true =>
      simp only [hr, if_true] at hnodup hqueued
      exact ⟨hnodup, hqueued, fun k => by simp [presents_some, hr, hnone]⟩
    | false =>
      simp only [hr, Bool.false_eq_true, if_false, List.nodup_cons, List.mem_cons] at hnodup hqueued
      have hmem : r.key ∈ m.members.map (·.key) := mem_keys ((hqueued r.key).1 (.inl rfl))
      refine ⟨hnodup.2, fun k => ?_, fun k => ?_⟩
      · show k ∈ reportKeys rest ↔ ⟨k, .queued⟩ ∈ (m.setMember r.key .presented).members
        rw [mem_setMember, ← hqueued]
        split_ifs with hk
        · simpa [hk] using hnodup.1
        · simp [hk]
      · show Presents (some ⟨r, false⟩) k ↔ ⟨k, .presented⟩ ∈ (m.setMember r.key .presented).members
        rw [mem_setMember, presents_some]
        split_ifs with hk
        · exact iff_of_true ⟨rfl, hr, hk.symm⟩ ⟨rfl, hmem⟩
        · simp [hnone, Ne.symm hk]

/-! ### The reports under the steps of the block -/

/-- A report of no member enters the queue (R82). -/
theorem MissBlock.ReportsMatch.queueNotParked {m : MissBlock} (h : m.ReportsMatch) {r : Report} (hr : r.notParked = true) :
    ({ m with queue := m.queue ++ [r] } : MissBlock).ReportsMatch := by
  have hkeys : reportKeys (m.queue ++ [r]) = reportKeys m.queue := by
    rw [reportKeys_append, reportKeys_cons, if_pos hr]
    exact List.append_nil _
  exact ⟨hkeys ▸ h.nodup, fun k => hkeys ▸ h.queued k, h.presented⟩

/-- The report of an Unreported member enters the queue, and the member becomes Queued (R80, R83). -/
theorem MissBlock.ReportsMatch.queueMember {m : MissBlock} (h : m.ReportsMatch) {r : Report} (hr : r.OfMember)
    (hmem : r.key ∈ m.members.map (·.key)) (hfree : ∀ st, ⟨r.key, st⟩ ∈ m.members → st = .unreported) :
    ({ m.setMember r.key .queued with queue := m.queue ++ [r] } : MissBlock).ReportsMatch := by
  have hkeys : reportKeys (m.queue ++ [r]) = reportKeys m.queue ++ [r.key] := by
    rw [reportKeys_append, reportKeys_cons, if_neg (by rw [hr]; exact Bool.false_ne_true)]
    rfl
  have hfresh : r.key ∉ reportKeys m.queue := fun hk => nomatch hfree _ ((h.queued _).1 hk)
  refine ⟨?_, fun k => ?_, fun k => (h.presented k).trans ?_⟩
  · show (reportKeys (m.queue ++ [r])).Nodup
    rw [hkeys, ← List.concat_eq_append]
    exact h.nodup.concat hfresh
  · show k ∈ reportKeys (m.queue ++ [r]) ↔ ⟨k, .queued⟩ ∈ (m.setMember r.key .queued).members
    rw [hkeys, mem_setMember, List.mem_append, List.mem_singleton, h.queued]
    split_ifs with hk
    · exact iff_of_true (.inr hk) ⟨rfl, hmem⟩
    · simp [hk]
  · show _ ↔ ⟨k, .presented⟩ ∈ (m.setMember r.key .queued).members
    rw [mem_setMember]
    split_ifs with hk
    · subst hk
      exact iff_of_false (fun hp => nomatch hfree _ hp) (fun hp => nomatch hp.1)
    · exact Iff.rfl

/-- A key has one member (R80). -/
theorem MissBlock.MembersParked.state_eq {m : MissBlock} (h : m.MembersParked) {k : Key} {a b : ReportState}
    (ha : ⟨k, a⟩ ∈ m.members) (hb : ⟨k, b⟩ ∈ m.members) : a = b :=
  congrArg Member.state (List.inj_on_of_nodup_map h.1 ha hb rfl)

/-- A new Unreported member has no report (R80). -/
theorem MissBlock.ReportsMatch.addUnreported {m : MissBlock} (h : m.ReportsMatch) (k : Key) :
    (m.addMember k .unreported).ReportsMatch where
  nodup := h.nodup
  queued k' := (h.queued k').trans (by simp [MissBlock.addMember])
  presented k' := (h.presented k').trans (by simp [MissBlock.addMember])

/-- A key without a member has none to move. -/
theorem map_state_of_fresh {l : List Member} {k : Key} (h : ∀ x ∈ l, x.key ≠ k) (st : ReportState) :
    (l.map fun x => if x.key = k then { x with state := st } else x) = l :=
  (List.map_congr_left fun x hx => if_neg (h x hx)).trans (List.map_id' l)

/-- The member just made is the one that moves. -/
theorem setMember_addMember {m : MissBlock} {k : Key} (h : ∀ x ∈ m.members, x.key ≠ k) (a b : ReportState) :
    (m.addMember k a).setMember k b = m.addMember k b := by
  simp [MissBlock.setMember, MissBlock.addMember, map_state_of_fresh h]

/-- A report of a member made Unreported: it enters the queue and, where the latch is empty, goes on (R84, R86). -/
theorem MissBlock.ReportsMatch.reportMember {m : MissBlock} (h : m.ReportsMatch) {p : Parked}
    (hmem : p.item.key ∈ m.members.map (·.key)) (hfree : ∀ st, ⟨p.item.key, st⟩ ∈ m.members → st = .unreported) :
    (m.reportMember p).ReportsMatch ∧ (m.reportMember p).LatchFirst :=
  (h.queueMember (r := p.item.report) rfl hmem hfree).present

theorem park_of_member {m : MissBlock} {r : MissItem} (h : ∃ x ∈ m.members, x.key = r.key) :
    m.park r = ({ m with parked := insertByOrder ⟨r, 0⟩ m.parked }, false) :=
  if_pos ((hasMember_iff ..).2 h)

/-- A key without a member gets an Unreported one, which is reported at once where the queue has room (R81). -/
theorem park_of_room {m : MissBlock} {r : MissItem} (h : ∀ x ∈ m.members, x.key ≠ r.key) (hroom : m.queue.length < 8) :
    m.park r =
      (MissBlock.reportMember
        ({ m with parked := insertByOrder ⟨r, 0⟩ m.parked }.addMember r.key .unreported) ⟨r, 0⟩, true) := by
  have hnew : ¬ m.hasMember r.key = true := fun hm => let ⟨x, hx, hk⟩ := (hasMember_iff ..).1 hm; h x hx hk
  dsimp only [MissBlock.reportMember]
  rw [setMember_addMember (m := { m with parked := insertByOrder ⟨r, 0⟩ m.parked }) h]
  exact (if_neg hnew).trans (if_pos hroom)

theorem park_of_full {m : MissBlock} {r : MissItem} (h : ∀ x ∈ m.members, x.key ≠ r.key) (hfull : ¬ m.queue.length < 8) :
    m.park r = ({ m with parked := insertByOrder ⟨r, 0⟩ m.parked }.addMember r.key .unreported, false) := by
  have hnew : ¬ m.hasMember r.key = true := fun hm => let ⟨x, hx, hk⟩ := (hasMember_iff ..).1 hm; h x hx hk
  exact (if_neg hnew).trans (if_neg hfull)

theorem MissBlock.ReportsMatch.park {m : MissBlock} (h : m.ReportsMatch) (hl : m.LatchFirst) (r : MissItem) :
    (m.park r).1.ReportsMatch ∧ (m.park r).1.LatchFirst := by
  have hplaced : ({ m with parked := insertByOrder ⟨r, 0⟩ m.parked } : MissBlock).ReportsMatch := { h with }
  by_cases hmem : ∃ x ∈ m.members, x.key = r.key
  · rw [park_of_member hmem]
    exact ⟨hplaced, hl⟩
  · push Not at hmem
    by_cases hroom : m.queue.length < 8
    · rw [park_of_room hmem hroom]
      refine (hplaced.addUnreported r.key).reportMember (by simp) fun st hst => ?_
      rcases List.mem_append.1 hst with hst | hst
      · exact absurd rfl (hmem _ hst)
      · cases List.mem_singleton.1 hst; rfl
    · rw [park_of_full hmem hroom]
      exact ⟨hplaced.addUnreported r.key, hl⟩

/-- A removal keeps the members whose key some kept record has (R85). -/
theorem mem_remove_members {m : MissBlock} {p : Parked → Bool} {x : Member} :
    x ∈ (m.remove p).members ↔ x ∈ m.members ∧ (m.remove p).hasRecord x.key = true := by
  rw [(MissBlock.remove_removedFrom m p).2.1]
  exact List.mem_filter

/-- A removal keeps the queued reports of the members it keeps (R85). -/
theorem reportKeys_remove (m : MissBlock) (p : Parked → Bool) :
    reportKeys (m.remove p).queue = (reportKeys m.queue).filter (m.remove p).hasRecord := by
  obtain ⟨-, -, hqueue, -⟩ := MissBlock.remove_removedFrom m p
  rw [hqueue, reportKeys, reportKeys, List.filter_map, List.filter_filter, List.filter_filter]
  congr 1
  refine List.filter_congr fun r _ => ?_
  cases hr : r.notParked
  · simp only [Bool.not_false, Bool.true_and, Bool.false_or, Bool.and_true]
    rfl
  · simp

/-- A removal marks the latched report Resolved unless it keeps its member (R85). -/
theorem presents_remove {m : MissBlock} {p : Parked → Bool} {k : Key} :
    Presents (m.remove p).latch k ↔ Presents m.latch k ∧ (m.remove p).hasRecord k = true := by
  rw [(MissBlock.remove_removedFrom m p).2.2.2.1]
  cases m.latch with
  | none => simp [not_presents_none]
  | some l =>
    rw [Option.map_some, presents_some, presents_some]
    split_ifs with hgone
    · refine iff_of_false (fun hp => nomatch hp.1) ?_
      rintro ⟨⟨-, -, rfl⟩, hkept⟩
      exact absurd (hgone.2.symm.trans hkept) Bool.false_ne_true
    · refine ⟨fun hp => ⟨hp, ?_⟩, And.left⟩
      obtain ⟨-, hmem, rfl⟩ := hp
      exact Bool.eq_true_of_not_eq_false fun hno => hgone ⟨hmem, hno⟩

theorem MissBlock.ReportsMatch.remove {m : MissBlock} (h : m.ReportsMatch) (p : Parked → Bool) :
    (m.remove p).ReportsMatch where
  nodup := reportKeys_remove m p ▸ h.nodup.filter _
  queued k := by rw [reportKeys_remove, List.mem_filter, mem_remove_members, h.queued]
  presented k := by rw [presents_remove, mem_remove_members, h.presented]

/-- The latch is emptied, and the member of its report, if it has one, becomes Consumed (R84). -/
theorem MissBlock.ReportsMatch.emptyLatch {m : MissBlock} (h : m.ReportsMatch) (hm : m.MembersParked) {l : Latched}
    (hlatch : m.latch = some l) :
    ({ (if l.resolved || l.report.notParked then m else m.setMember l.report.key .consumed) with
      latch := none } : MissBlock).ReportsMatch := by
  have hpresented (k : Key) := hlatch ▸ h.presented k
  simp only [presents_some] at hpresented
  split_ifs with hnone
  · refine ⟨h.nodup, h.queued, fun k => iff_of_false (not_presents_none k) fun hk => ?_⟩
    obtain ⟨hres, hmem, -⟩ := (hpresented k).2 hk
    rw [hres, hmem] at hnone
    cases hnone
  · rw [Bool.not_eq_true, Bool.or_eq_false_iff] at hnone
    have hmember : ⟨l.report.key, .presented⟩ ∈ m.members := (hpresented _).1 ⟨hnone.1, hnone.2, rfl⟩
    refine ⟨h.nodup, fun k => (h.queued k).trans ?_, fun k => iff_of_false (not_presents_none k) fun hk => ?_⟩
    · show _ ↔ ⟨k, .queued⟩ ∈ (m.setMember l.report.key .consumed).members
      rw [mem_setMember]
      split_ifs with hk
      · subst hk
        exact iff_of_false (fun hq => nomatch hm.state_eq hmember hq) (fun hq => nomatch hq.1)
      · exact Iff.rfl
    · rcases ite_prop_iff_or.1 (mem_setMember.1 hk) with ⟨-, hst, -⟩ | ⟨hne, hk⟩
      · cases hst
      · exact hne ((hpresented k).2 hk).2.2.symm

theorem MissBlock.ReportsMatch.pop {m : MissBlock} (h : m.ReportsMatch) (hl : m.LatchFirst) (hm : m.MembersParked) :
    m.pop.ReportsMatch ∧ m.pop.LatchFirst := by
  unfold MissBlock.pop
  split
  · exact ⟨h, hl⟩
  · rename_i l hlatch
    exact (h.emptyLatch hm hlatch).present

theorem MissBlock.LatchFirst.remove {m : MissBlock} (h : m.LatchFirst) (p : Parked → Bool) : (m.remove p).LatchFirst :=
  fun hnone => by
    have hqueue : m.queue = [] := h (Option.map_eq_none_iff.1 hnone)
    simp [MissBlock.remove, hqueue]

/-- An Unreported member has no other state. -/
theorem MissBlock.MembersParked.unreported {m : MissBlock} (h : m.MembersParked) {p : Parked} (hu : m.UnreportedAt p) :
    p.item.key ∈ m.members.map (·.key) ∧ ∀ st, ⟨p.item.key, st⟩ ∈ m.members → st = .unreported :=
  have hmember := mem_members_iff.2 hu
  ⟨mem_keys hmember, fun _ hst => h.state_eq hst hmember⟩

theorem MissStep.sound {m m' : MissBlock} (h : MissStep m m') (hm : m.Sound) : m'.Sound := by
  have hreports : m'.ReportsMatch ∧ m'.LatchFirst := by
    obtain ⟨⟨hmembers, -, -⟩, hmatch, hl⟩ := hm
    cases h with
    | clear => exact ⟨⟨List.nodup_nil, by simp [reportKeys], by simp [not_presents_none]⟩, fun _ => rfl⟩
    | park r => exact hmatch.park hl r
    | report r _ hr => exact (hmatch.queueNotParked hr).present
    | lose => exact ⟨{ hmatch with }, hl⟩
    | age => exact ⟨{ hmatch with }, hl⟩
    | remove p => exact ⟨hmatch.remove p, hl.remove p⟩
    | pop => exact hmatch.pop hl hmembers
    | reportMember p _ hu =>
      obtain ⟨hmem, hfree⟩ := hmembers.unreported hu
      exact hmatch.reportMember hmem hfree
  exact ⟨h.setSound hm.toSetSound, hreports.1, hreports.2⟩

/-- Settles O55: every effect is a chain of steps of the miss parking block, and each of these keeps the block sound. -/
theorem pageSetAndReportsStaySound : Obligations.PageSetAndReportsStaySound := by
  intro s t hset hreports hstep
  rw [← missSound_iff]
  exact step_induction (P := fun u => u.miss.Sound) (fun _ _ heffect => heffect.miss_induction fun _ _ => MissStep.sound)
    ((missSound_iff s).2 ⟨hset, hreports⟩) hstep

end Sys2Proof.Machine
end

section
/-! A miss under its context's policy, with what it parks and reports (R81 to R84, R89). -/

namespace Sys2Proof.Machine

/-! ### A report enters -/

/-- The report of a member enters: the member is Queued, or Presented where the report goes on into an empty latch (R80, R83,
R84). -/
theorem reportMember_eq {m : MissBlock} (p : Parked) (h : m.LatchFirst) :
    m.reportMember p = { m with
      members := m.members.map fun x => if x.key = p.item.key then { x with state := m.enteredState } else x
      queue := if m.latch = none then [] else m.queue ++ [p.item.report]
      latch := if m.latch = none then some ⟨p.item.report, false⟩ else m.latch } := by
  unfold MissBlock.reportMember MissBlock.enteredState
  rw [MissBlock.enter_eq (m.setMember p.item.key .queued) _ h]
  by_cases hl : m.latch = none
  · rw [if_pos ⟨hl, rfl⟩, show p.item.report.key = p.item.key from rfl, setMember_setMember]
    simp [MissBlock.setMember, hl]
  · simp [MissBlock.setMember, hl]

/-- A report of no member enters and leaves the members alone (R82). -/
theorem enter_notParked_eq {m : MissBlock} {r : Report} (hr : r.notParked = true) (h : m.LatchFirst) :
    m.enter r = { m with
      queue := if m.latch = none then [] else m.queue ++ [r]
      latch := if m.latch = none then some ⟨r, false⟩ else m.latch } := by
  rw [MissBlock.enter_eq _ _ h, if_neg fun hno => by rw [hr] at hno; cases hno.2]

/-! ### A miss -/

/-- The record of a request that finds a member for its key is parked without a report (R81). -/
theorem park_of_member_eq {s : State} {r : MissItem} (h : ∃ x ∈ s.miss.members, x.key = r.key) :
    s.park r = { s with miss := { s.miss with parked := insertByOrder ⟨r, 0⟩ s.miss.parked } } := by
  rw [State.park, park_of_member h]
  rfl

theorem park_of_room_eq {s : State} {r : MissItem} (h : ∀ x ∈ s.miss.members, x.key ≠ r.key)
    (hroom : s.miss.queue.length < 8) (hl : s.miss.LatchFirst) :
    s.park r = State.reportEnters
      { s with miss := { s.miss with
          parked := insertByOrder ⟨r, 0⟩ s.miss.parked
          members := s.miss.members ++ [⟨r.key, s.miss.enteredState⟩] } } r.report := by
  have hentered := reportMember_eq
    (m := { s.miss with parked := insertByOrder ⟨r, 0⟩ s.miss.parked }.addMember r.key .unreported) ⟨r, 0⟩ hl
  simp only [MissBlock.addMember, List.map_append, List.map_cons, List.map_nil, map_state_of_fresh h, if_true] at hentered
  simp only [State.park, park_of_room h hroom, MissBlock.addMember, hentered]
  rfl

theorem park_of_full_eq {s : State} {r : MissItem} (h : ∀ x ∈ s.miss.members, x.key ≠ r.key)
    (hfull : ¬ s.miss.queue.length < 8) :
    s.park r = { s with miss := { s.miss with
      parked := insertByOrder ⟨r, 0⟩ s.miss.parked
      members := s.miss.members ++ [⟨r.key, .unreported⟩] } } := by
  rw [State.park, park_of_full h hfull]
  rfl

theorem reportNotParked_of_room {s : State} {r : Report} (hr : r.notParked = true) (hl : s.miss.LatchFirst)
    (hroom : s.miss.queue.length < 8) (h : ∀ x ∈ s.miss.members, x.key ≠ r.key) :
    s.reportNotParked r = s.reportEnters r := by
  have hnew : s.miss.hasMember r.key = false := by simpa [MissBlock.hasMember] using h
  rw [State.reportNotParked, if_pos (by simp [hroom, hnew]), enter_notParked_eq hr hl]
  rfl

theorem reportNotParked_of_lost {s : State} {r : Report}
    (h : ¬ (s.miss.queue.length < 8 ∧ ∀ x ∈ s.miss.members, x.key ≠ r.key)) :
    s.reportNotParked r = { s with miss := { s.miss with lost := satInc 255 s.miss.lost } } := by
  rw [State.reportNotParked, if_neg]
  simpa [MissBlock.hasMember] using h

/-- Settles O19, by the policy, then by the room and by whether the key has a member. -/
theorem missFollowsItsPolicy : Obligations.MissFollowsItsPolicy := by
  refine ⟨fun s r c k hpolicy hl => ⟨fun hfull => ?_, fun hspace => ?_⟩, fun s r c k hpolicy hl u hu => ?_⟩
  · rw [State.missRequest, hpolicy]
    exact (if_pos hfull).trans (s.faultRequest_eq r .parkFull (some c))
  · have hmiss : s.missRequest r c k = s.park (r.missItem c k) := by
      rw [State.missRequest, hpolicy]
      exact if_neg (by omega)
    obtain ⟨before, after, hparked, hbefore, hafter, hplaced⟩ := insertByOrder_split ⟨r.missItem c k, 0⟩ s.miss.parked
    refine ⟨before, after, hparked, hbefore, hafter, fun parked hnew => ?_⟩
    obtain rfl : insertByOrder ⟨r.missItem c k, 0⟩ s.miss.parked = parked := hplaced.trans hnew.symm
    rw [hmiss]
    exact ⟨park_of_member_eq (r := r.missItem c k), fun hfresh hroom => park_of_room_eq hfresh hroom hl,
      fun hfresh hfull => park_of_full_eq hfresh (by omega)⟩
  · have hmiss : s.missRequest r c k = u.reportNotParked ⟨k, r.agent, c, r.acc.kind, true⟩ := by
      rw [State.missRequest, hpolicy, hu, ← State.faultRequest_eq]
    have hsame : u.miss = s.miss := by rw [hu]; simp
    rw [hmiss, ← hsame]
    exact ⟨fun ⟨hroom, hfresh⟩ => reportNotParked_of_room rfl (hsame ▸ hl) hroom hfresh,
      fun hlost => reportNotParked_of_lost hlost⟩

end Sys2Proof.Machine
end

section
/-! What the host does to the miss parking block: MissPop, by the latch and the queue, and AbortParked, by the parked list (R84,
R91). -/

namespace Sys2Proof.Machine

/-! ### MissPop -/

/-- A MissPop of a latched report, before the service of the backlog (R84). -/
theorem missPop_of_latch {s : State} {l : Latched} (hlatch : s.miss.latch = some l) {members : List Member}
    (hmembers : members = (if l.resolved = false ∧ l.report.notParked = false then
        s.miss.members.map fun x => if x.key = l.report.key then { x with state := .consumed } else x
      else s.miss.members)) :
    s.missPop = State.serveBacklog
      { s with miss := MissBlock.present { s.miss with latch := none, members := members } } := by
  have hpop : s.miss.pop = MissBlock.present { s.miss with latch := none, members := members } := by
    rw [MissBlock.pop, hlatch, hmembers]
    cases hres : l.resolved <;> cases hmem : l.report.notParked <;> simp [hres, hmem, MissBlock.setMember]
  rw [State.missPop, hlatch, hpop]
  rfl

theorem exec_missPop (v : Word) (s : State) : exec (.missPop v) s = .next s.missPop.ack := rfl

/-- Settles O37, by the latch and then by the head of the report queue. -/
theorem missPopPresentsNextReport : Obligations.MissPopPresentsNextReport := by
  refine fun s v => ⟨fun hlatch => ?_, fun l hlatch members hmembers => ⟨fun hqueue => ?_, fun r rest hqueue => ?_⟩⟩
  · rw [exec_missPop, State.missPop, hlatch]
    rfl
  · rw [exec_missPop, missPop_of_latch hlatch hmembers,
      present_of_still (m := { s.miss with latch := none, members := members }) (.inr hqueue)]
    rfl
  · rw [exec_missPop, missPop_of_latch hlatch hmembers,
      present_of_cons (m := { s.miss with latch := none, members := members }) rfl hqueue]
    cases hr : r.notParked <;> rfl

/-! ### AbortParked -/

theorem cmdAbortParked_of_out_of_range (s : State) {a : Vector Word 4} (h : ¬ KeyInRange a[0] a[1]) :
    s.cmdAbortParked a = s.fails .badArgument := by
  simp only [State.cmdAbortParked, keyArg_eq_none h]

theorem hasRecord_iff (m : MissBlock) (k : Key) : m.hasRecord k = true ↔ ∃ p ∈ m.parked, p.item.key = k := by
  simp [MissBlock.hasRecord]

theorem cmdAbortParked_of_none {s : State} {a : Vector Word 4} (h : KeyInRange a[0] a[1])
    (hnone : ∀ p ∈ s.miss.parked, p.item.key ≠ keyNamed a[0] a[1]) : s.cmdAbortParked a = s.fails .notFound := by
  have hno : ¬ s.miss.hasRecord (keyNamed a[0] a[1]) = true := fun hrecord =>
    let ⟨p, hp, hk⟩ := (hasRecord_iff ..).1 hrecord; hnone p hp hk
  simp only [State.cmdAbortParked, keyArg_eq_some h, if_neg hno]

theorem cmdAbortParked_of_parked {s : State} {a : Vector Word 4} (h : KeyInRange a[0] a[1]) {p : Parked}
    (hp : p ∈ s.miss.parked) (hk : p.item.key = keyNamed a[0] a[1]) :
    s.cmdAbortParked a =
      ⟨s.abortKey (keyNamed a[0] a[1]), .ok,
        BitVec.ofNat 32 (s.miss.parked.filter fun q => q.item.key == keyNamed a[0] a[1]).length, 0⟩ := by
  have hrecord : s.miss.hasRecord (keyNamed a[0] a[1]) = true := (hasRecord_iff ..).2 ⟨p, hp, hk⟩
  simp only [State.cmdAbortParked, keyArg_eq_some h, if_pos hrecord, List.countP_eq_length_filter, Parked.under_eq]

/-- Settles O34, by whether some record is parked under the key. -/
theorem abortParkedFinishesKey : Obligations.AbortParkedFinishesKey := by
  refine fun s a hhead => ⟨fun hrange => ?_, fun hrange hnone => ?_, fun hrange p hp hk => ?_⟩
  · exact commandStep_of_body hhead (cmdAbortParked_of_out_of_range s hrange)
  · exact commandStep_of_body hhead (cmdAbortParked_of_none hrange hnone)
  · refine ⟨_, MissBlock.remove_removedFrom _ _, fun gone hgone => ?_⟩
    rw [hgone]
    exact commandStep_of_body hhead (cmdAbortParked_of_parked hrange hp hk)

end Sys2Proof.Machine
end

section
/-! The service of the backlog, and the state that the end of each step hands it (R86). -/

namespace Sys2Proof.Machine

/-! ### The service of the backlog -/

theorem serve_of_head {m : MissBlock} {p : Parked} (hroom : m.queue.length < 8) (hhead : m.backlogHead = some p) (n : Nat) :
    m.serve (n + 1) = (((m.reportMember p).serve n).1, true) := by
  rw [MissBlock.serve, if_pos hroom, hhead]

theorem reportedFor_eq {s : State} (p : Parked) (hl : s.miss.LatchFirst) :
    s.reportedFor p = { s with miss := s.miss.reportMember p, ev := s.ev.raise .missReport } := by
  rw [reportMember_eq p hl]
  rfl

/-- To raise a source again changes nothing (R134). -/
theorem raise_raise (e : EventBlock) (x : Source) : (e.raise x).raise x = e.raise x := by
  simp [EventBlock.raise, BitVec.or_assoc]

/-- One member is reported, and the rest of the backlog after it (R86). -/
theorem serveBacklog_of_head {s : State} {p : Parked} (hl : s.miss.LatchFirst) (hroom : s.miss.queue.length < 8)
    (hhead : s.miss.backlogHead = some p) : s.serveBacklog = (s.reportedFor p).serveBacklog := by
  have hfewer := unreported_reportMember_lt s.miss p hl (backlogHead_unreported _ _ hhead)
  have hcount : s.miss.unreported ≤ s.miss.members.length := List.countP_le_length
  have hlen : (s.miss.reportMember p).members.length = s.miss.members.length := by
    rw [reportMember_members _ _ hl, List.length_map]
  obtain ⟨n, hn⟩ : ∃ n, s.miss.members.length = n + 1 := Nat.exists_eq_add_one_of_ne_zero (by omega)
  have hfuel : (s.miss.reportMember p).serve (n + 1) = (s.miss.reportMember p).serve n :=
    serve_fuel _ _ _ (reportMember_latch _ p hl) (by omega) (by omega)
  rw [reportedFor_eq p hl]
  simp only [State.serveBacklog, hlen, hn, serve_of_head hroom hhead, hfuel, raise_raise, ite_self, if_true]

/-! ### The step at whose end the backlog is served -/

theorem beforeService_of_due {s : State} {mark : Bool} (he : s.dp.epoch = some mark) (hdue : s.softResetDue mark = true) :
    s.beforeService = none := by
  simp [State.beforeService, nextStep_epoch (s := s) (by simp [he]), State.ageingStepPending, he, hdue]

theorem beforeService_of_not_due {s : State} {mark : Bool} (he : s.dp.epoch = some mark)
    (hdue : s.softResetDue mark = false) : s.beforeService = some s.dropEpoch.epochDuties := by
  simp [State.beforeService, nextStep_epoch (s := s) (by simp [he]), ageingStepPending_of_not_due he hdue]

theorem beforeService_of_portReset {s : State} (he : s.dp.epoch = none)
    (h : ∃ n : AgentId, s.ports[n].resetPending = true) : s.beforeService = none := by
  obtain ⟨n, hn⟩ := h
  cases hp : s.pendingReset with
  | none => rw [(pendingReset_eq_none s).1 hp n] at hn; cases hn
  | some m =>
    obtain ⟨hm, hlow⟩ := (pendingReset_eq_some s m).1 hp
    rw [State.beforeService, nextStep_portReset he hm hlow]

theorem beforeService_of_replay {s : State} (h : s.ReplayReady) (hr : s.dp.replay ≠ []) :
    s.beforeService = some s.replayDecided := by
  rw [State.beforeService, nextStep_replay h hr]

theorem beforeService_of_command {s : State} {k : Byte} {a : Vector Word 4} (h : s.CommandAtHead k a) :
    s.beforeService = some (State.completeCommand (s.commandBody k a) k) := by
  obtain ⟨hready, hhead⟩ := h
  have hfifo : s.cmd.fifo ≠ [] := fun he => by rw [he] at hhead; cases hhead
  rw [State.beforeService, nextStep_hostCommand hready hfifo, hhead]
  rfl

theorem beforeService_of_newItem {s : State} (h : s.NewItemReady) {n : AgentId} (hn : s.chosenPort = some n) :
    s.beforeService = some (s.newItemDecided n) := by
  rw [State.beforeService, nextStep_newItem h, hn]
  rfl

theorem beforeService_of_idle {s : State} (h : s.NoUrgentStep) (hreplay : s.dp.replay = [] ∨ ¬ s.GateOpen)
    (hcommand : s.cmd.fifo = [] ∨ 4 ≤ s.cmd.results.length) (hitem : s.dp.replay ≠ [] ∨ ∀ n, ¬ s.HeadEligible n) :
    s.beforeService = none := by
  have hnext : s.nextStep = none := by
    rw [nextStep_of_noUrgent h, if_neg fun ⟨hne, hgate⟩ => hreplay.elim hne (· hgate),
      if_neg fun ⟨hne, hroom⟩ => hcommand.elim hne (by omega)]
    split_ifs with hempty
    · rw [(chosenPort_eq_none s).2 (hitem.resolve_left (not_not_intro hempty))]
      rfl
    · rfl
  rw [State.beforeService, hnext]

/-- The row of a command executes the body of its kind (R131). -/
theorem exec_commandRow (s : State) {k : Byte} (j : Fin 17) (hj : k.toNat = j.val + 1) :
    exec hostCommandSteps[j.castSucc] s = .next (s.commandStep (· == k) (s.commandBody k)) := by
  obtain rfl : k = BitVec.ofNat 8 (j.val + 1) := by rw [← hj, BitVec.ofNat_toNat, BitVec.setWidth_eq]
  fin_cases j <;> rfl

theorem commandBody_of_badKind (s : State) {k : Byte} (h : k = 0 ∨ 18 ≤ k.toNat) :
    s.commandBody k = fun _ => s.fails .badCommand := by
  have hk : k.toNat = 0 ∨ 18 ≤ k.toNat := h.imp_left (congrArg BitVec.toNat)
  unfold State.commandBody
  split
  case h_18 => rfl
  all_goals omega

/-- A row that takes the head runs its body, completes the command and serves the backlog (R86, R128). -/
theorem commandStep_serves {s : State} {k : Byte} {a : Vector Word 4} (h : s.CommandAtHead k a) {p : Byte → Bool}
    (hp : p k = true) : s.commandStep p (s.commandBody k) = (State.completeCommand (s.commandBody k a) k).serveBacklog := by
  rw [commandStep_ready h, if_pos hp]
  rfl

theorem exec_backlogService (s : State) : exec .backlogService s = execBacklogService s := rfl

theorem exec_backlogService_of_some {s u : State} (h : s.beforeService = some u) :
    exec .backlogService s = .next (if u.miss.servable then u.serveBacklog else s) := by
  rw [exec_backlogService, execBacklogService, h]

theorem not_servable_of {m : MissBlock} (h : 8 ≤ m.queue.length ∨ ∀ p ∈ m.parked, ¬ m.UnreportedAt p) :
    m.servable = false := by
  refine Bool.eq_false_iff.2 fun hs => ?_
  obtain ⟨hroom, p, hp, hu⟩ := (servable_iff m).1 hs
  exact h.elim (by omega) fun hnone => hnone p hp hu

/-- Settles O38: the service by its head, and the state it finds by the step that is next. -/
theorem backlogIsServedOldestFirst : Obligations.BacklogIsServedOldestFirst := by
  refine ⟨fun s hl => ⟨fun hnone => serveBacklog_of_not_servable s (not_servable_of hnone),
      fun p before after hroom hparked hu hfirst =>
        serveBacklog_of_head hl hroom (backlogHead_eq_some _ _ _ _ hparked hu hfirst)⟩,
    fun s => ⟨fun u hu => ⟨fun hservable => ?_, fun hnone => ?_⟩, fun hnone => ?_, fun mark he => ⟨fun hdue => ?_, fun hdue => ?_⟩,
      beforeService_of_portReset, fun hready hr => ?_, fun k a hhead => ?_, fun hready hsome => ?_,
      beforeService_of_idle⟩⟩
  · rw [exec_backlogService_of_some hu, if_pos ((servable_iff _).2 hservable)]
  · rw [exec_backlogService_of_some hu, not_servable_of hnone, if_neg Bool.false_ne_true]
  · rw [exec_backlogService, execBacklogService, hnone]
  · exact beforeService_of_due he ((softResetDue_iff s mark).2 hdue)
  · have hno : s.softResetDue mark = false := Bool.eq_false_iff.2 fun h => hdue ((softResetDue_iff s mark).1 h)
    exact ⟨_, beforeService_of_not_due he hno, congrArg Host.Outcome.next (takeEpochStep_of_not_due he hno)⟩
  · refine ⟨_, beforeService_of_replay hready hr, ?_⟩
    rw [exec_replayStep, if_pos (nextStep_replay hready hr)]
    rfl
  · refine ⟨_, beforeService_of_command hhead, fun j hj => ?_, fun hbad => ?_⟩
    · rw [exec_commandRow s j hj, commandStep_serves hhead (p := (· == k)) (beq_self_eq_true k)]
    · have hkind : badKind k = true := by
        rw [badKind, Bool.or_eq_true, decide_eq_true_eq, decide_eq_true_eq]
        exact hbad
      have hrow : exec .badCommand s = .next (s.commandStep badKind (s.commandBody k)) := by
        rw [commandBody_of_badKind s hbad]
        rfl
      rw [hrow, commandStep_serves hhead hkind]
  · obtain ⟨n, hn⟩ := Option.ne_none_iff_exists'.1 fun hno => not_exists.2 ((chosenPort_eq_none s).1 hno) hsome
    obtain ⟨it, rest, hserves⟩ := servesItem_of_nextStep (s := s) (n := n) (by rw [nextStep_newItem hready, hn]; rfl)
    refine ⟨_, beforeService_of_newItem hready hn, ?_⟩
    rw [exec_newAgentItemStep, takeNewItem_serves hserves, if_pos rfl, ← newItemStep_eq hserves.2.2]
    rfl

end Sys2Proof.Machine
end

section
/-! What a step of the machine can do to the reservations and the bindings, said once: every step is a chain of reservation
effects (`step_reservationEffects`), and each of them keeps the reservations sound (R95). -/

namespace Sys2Proof.Machine

/-! ### Reservation effects -/

/-- One thing that the machine can do within a step to the reservations and the bindings of the agents. -/
inductive ReservationEffect (s t : State) : Prop
  /-- The agents that satisfy `p` lose their reservations (R66, R97 to R99, R102, R162). -/
  | cleared (p : AgentId → Bool)
      (resv : ∀ n : AgentId, t.resv[n] = if p n then Reservation.cleared else s.resv[n])
      (bindings : t.bindings = s.bindings)
  /-- Every reservation ages (R103). -/
  | aged (lifetime : BitVec 4) (resv : ∀ n : AgentId, t.resv[n] = s.resv[n].older lifetime)
      (bindings : t.bindings = s.bindings)
  /-- An agent that is bound reserves a line (R97). -/
  | reserved (n : AgentId) (bank : BitVec 4) (addr : Word) (isBound : s.bindings[n] ≠ none)
      (resv : t.resv = s.resv.set n { valid := true, bank := bank, line := lineOf addr, age := 0 })
      (bindings : t.bindings = s.bindings)
  /-- An agent is bound (R48). -/
  | bound (n : AgentId) (c : ContextId) (resv : t.resv = s.resv) (bindings : t.bindings = s.bindings.set n (some c))
  /-- The agents that satisfy `p` lose their bindings and with them their reservations (R49, R158). -/
  | unbound (p : AgentId → Bool)
      (resv : ∀ n : AgentId, t.resv[n] = if p n then Reservation.cleared else s.resv[n])
      (bindings : ∀ n : AgentId, t.bindings[n] = if p n then none else s.bindings[n])

/-- A chain of reservation effects leads from one state to the other. -/
abbrev ReservationEffects : State → State → Prop := Relation.ReflTransGen ReservationEffect

/-- A change that leaves the reservations and the bindings. -/
theorem ReservationEffects.of_eq {s t : State} (hresv : t.resv = s.resv) (hbindings : t.bindings = s.bindings) :
    ReservationEffects s t :=
  .single (.cleared (fun _ => false) (fun n => by rw [hresv, if_neg Bool.false_ne_true]) hbindings)

/-- Reservation effects followed by a change that leaves the reservations and the bindings. -/
theorem ReservationEffects.then_eq {s t u : State} (h : ReservationEffects s t) (hresv : u.resv = t.resv)
    (hbindings : u.bindings = t.bindings) : ReservationEffects s u := h.trans (ReservationEffects.of_eq hresv hbindings)

/-- Reservation effects after a change that leaves the reservations and the bindings. -/
theorem ReservationEffects.after_eq {s t u : State} (h : ReservationEffects t u) (hresv : t.resv = s.resv)
    (hbindings : t.bindings = s.bindings) : ReservationEffects s u := (ReservationEffects.of_eq hresv hbindings).trans h

theorem ReservationEffects.of_next {s t u : State} (h : (.next u : Answer) = .next t) (hu : ReservationEffects s u) :
    ReservationEffects s t := by
  cases h; exact hu

theorem ReservationEffects.serve {s t : State} (h : ReservationEffects s t) : ReservationEffects s t.serveBacklog :=
  h.then_eq rfl rfl

/-! ### Clearing -/

theorem clearReservation_effect (s : State) (n : AgentId) : ReservationEffect s (s.clearReservation n) := by
  refine .cleared (decide <| · = n) (fun m => ?_) rfl
  simp only [State.clearReservation_resv, set_getElem_fin, decide_eq_true_eq]

/-- A change that clears the valid reservations satisfying `p`, as far as reservations and bindings go. -/
theorem ReservationEffect.of_clearWhere {s t : State} {p : AgentId → Reservation → Bool}
    (hresv : t.resv = (s.clearReservationsWhere p).resv) (hbindings : t.bindings = s.bindings) : ReservationEffect s t := by
  refine .cleared (fun n => s.resv[n].valid && p n s.resv[n]) (fun n => ?_) hbindings
  rw [hresv, State.clearReservationsWhere_resv, mapIdx_fin]

theorem clearFrame_effect (s : State) (b : BitVec 4) (f : BitVec 20) : ReservationEffect s (s.clearFrame b f) :=
  .of_clearWhere rfl rfl

theorem writeClears_effect (s : State) (r : Request) (b : BitVec 4) (a : Word) :
    ReservationEffect s (s.writeClears r b a) := .of_clearWhere rfl rfl

theorem purgeWhere_effect (s : State) (p : Entry → Bool) : ReservationEffect s (s.purgeWhere p) :=
  .of_clearWhere (State.purgeWhere_resv s p) (State.purgeWhere_bindings s p)

/-! ### Requests -/

theorem faultRequest_reservationEffects (s : State) (r : Request) (k : FaultKind) (c : Option ContextId) :
    ReservationEffects s (s.faultRequest r k c) := by
  unfold State.faultRequest
  split
  · exact ReservationEffects.then_eq (.single (clearReservation_effect s r.agent)) (by simp) (by simp)
  · exact .of_eq (by simp) (by simp)

theorem missRequest_reservationEffects (s : State) (r : Request) (c : ContextId) (k : Key) :
    ReservationEffects s (s.missRequest r c k) := by
  unfold State.missRequest
  split
  · split
    · exact faultRequest_reservationEffects ..
    · exact .of_eq rfl rfl
  · exact (faultRequest_reservationEffects s r .miss (some c)).then_eq (by simp) (by simp)

theorem issue_reservationEffects (s : State) (r : Request) (c : ContextId) (b : BitVec 4) (a : Word)
    (hit : Option EntryId) (f : Entry → Entry) : ReservationEffects s ((s.issue r c b a).markEntry hit f) :=
  .of_eq (by simp) (by simp)

/-- A request of a bound agent that passes its checks: a ReserveRead reserves its line, the write-type kinds clear (R97 to
R99). -/
theorem passRequest_reservationEffects {s : State} {r : Request} (hbound : s.bindings[r.agent] ≠ none) (c : ContextId)
    (b : BitVec 4) (a : Word) (hit : Option EntryId) : ReservationEffects s (s.passRequest r c b a hit) := by
  have hissue := issue_reservationEffects s r c b a hit
  unfold State.passRequest
  split
  case h_1 | h_2 => exact hissue _
  case h_3 => exact (hissue _).tail (writeClears_effect ..)
  case h_4 => exact (hissue _).tail (.reserved r.agent b a (by simpa using hbound) rfl rfl)
  case h_5 =>
    split
    · exact ((hissue _).tail (writeClears_effect ..)).tail (clearReservation_effect ..)
    · exact (ReservationEffects.of_eq (by simp) (by simp)).tail (clearReservation_effect ..)

/-- A request reaches the reservation monitor only with its agent bound (R31). -/
theorem decideRequest_reservationEffects (s : State) (r : Request) : ReservationEffects s (s.decideRequest r) := by
  unfold State.decideRequest
  split
  · exact faultRequest_reservationEffects ..
  · rename_i hbound
    split
    · exact faultRequest_reservationEffects ..
    · split
      · exact faultRequest_reservationEffects ..
      · exact missRequest_reservationEffects ..
      · exact passRequest_reservationEffects (by rw [hbound]; exact Option.some_ne_none _) ..

theorem decideItem_reservationEffects (s : State) (n : AgentId) (it : Item) :
    ReservationEffects s (s.decideItem n it) := by
  rcases decideItem_cases s n it with ⟨-, q, a, h⟩ | ⟨-, code, h⟩ | ⟨-, -, r, -, -, h⟩ <;> rw [h]
  · exact .of_eq (by simp) (by simp)
  · exact .of_eq (by simp) (by simp)
  · exact decideRequest_reservationEffects s r

/-! ### Host commands -/

theorem cmdInsertAddress_reservationEffects (s : State) (a : Vector Word 4) :
    ReservationEffects s (s.cmdInsertAddress a).state := by
  unfold State.cmdInsertAddress State.insertAddress
  split
  · split
    · exact ReservationEffects.then_eq (.single (clearFrame_effect ..)) rfl rfl
    · split
      · exact .of_eq rfl rfl
      · split
        · exact ReservationEffects.then_eq (.single (clearFrame_effect ..)) rfl rfl
        · exact .refl
  · exact .refl

theorem cmdPurgeEntry_reservationEffects (s : State) (a : Vector Word 4) :
    ReservationEffects s (s.cmdPurgeEntry a).state := by
  unfold State.cmdPurgeEntry
  split
  · split
    · exact .refl
    · exact ReservationEffects.then_eq (.single (clearFrame_effect ..)) rfl rfl
  · exact .refl

theorem purgeMany_reservationEffects (s : State) (p : Entry → Bool) : ReservationEffects s (s.purgeMany p).state :=
  .single (purgeWhere_effect s p)

theorem cmdBindAgent_reservationEffects (s : State) (a : Vector Word 4) :
    ReservationEffects s (s.cmdBindAgent a).state := by
  unfold State.cmdBindAgent
  split
  · split
    · exact .refl
    · exact .single (.bound _ _ rfl rfl)
  · exact .refl

/-- An agent that is unbound loses its reservation in the same step (R49). -/
theorem cmdUnbindAgent_reservationEffects (s : State) (a : Vector Word 4) :
    ReservationEffects s (s.cmdUnbindAgent a).state := by
  unfold State.cmdUnbindAgent
  split
  · rename_i n _
    split
    · exact .refl
    · refine .single (.unbound (decide <| · = n) (fun m => ?_) fun m => ?_) <;>
        simp only [State.clearReservation_resv, State.clearReservation_bindings, set_getElem_fin, decide_eq_true_eq]
  · exact .refl

theorem abortKey_reservationEffects (s : State) (k : Key) : ReservationEffects s (s.abortKey k) :=
  .of_eq (foldl_keeps _ State.resv (fun _ _ => State.finishParked_resv ..) _ _)
    (foldl_keeps _ State.bindings (fun _ _ => State.finishParked_bindings ..) _ _)

theorem cmdSetSuspended_reservationEffects (s : State) (a : Vector Word 4) (v : Bool) :
    ReservationEffects s (s.cmdSetSuspended a v).state := by
  unfold State.cmdSetSuspended
  split <;> exact .of_eq rfl rfl

/-- The body of every command acts on the reservations and the bindings by reservation effects (R131). -/
theorem commandBody_reservationEffects (s : State) (k : Byte) (a : Vector Word 4) :
    ReservationEffects s (s.commandBody k a).state := by
  generalize hbody : s.commandBody k = body
  unfold State.commandBody at hbody
  split at hbody <;> subst hbody
  case h_1 => exact cmdInsertAddress_reservationEffects s a
  case h_2 =>
    unfold State.cmdInsertRights State.insertRights
    split
    · split <;> exact .of_eq rfl rfl
    · exact .refl
  case h_3 => exact cmdPurgeEntry_reservationEffects s a
  case h_4 =>
    unfold State.cmdPurgeSegment
    split
    · exact purgeMany_reservationEffects ..
    · exact .refl
  case h_5 =>
    unfold State.cmdPurgeAll
    split
    · exact purgeMany_reservationEffects ..
    · exact .refl
  case h_6 => unfold State.cmdReadEntry; split <;> exact .refl
  case h_7 =>
    unfold State.cmdProbe State.probeAnswer
    split
    · split <;> exact .refl
    · exact .refl
  case h_8 => exact cmdBindAgent_reservationEffects s a
  case h_9 => exact cmdUnbindAgent_reservationEffects s a
  case h_10 =>
    unfold State.cmdWriteContext
    split
    · split <;> exact .of_eq rfl rfl
    · exact .refl
  case h_11 =>
    unfold State.cmdReadContext
    split
    · split <;> exact .refl
    · exact .refl
  case h_12 => exact cmdSetSuspended_reservationEffects s a true
  case h_13 => exact cmdSetSuspended_reservationEffects s a false
  case h_14 =>
    unfold State.cmdAbortParked
    split
    · split
      · exact abortKey_reservationEffects ..
      · exact .refl
    · exact .refl
  case h_15 =>
    unfold State.cmdClearReservation
    split
    · exact .single (clearReservation_effect ..)
    · exact .refl
  case h_16 => unfold State.cmdEnterStandby; split <;> exact .of_eq rfl rfl
  case h_17 => unfold State.cmdArmSoftReset; split <;> exact .of_eq rfl rfl
  case h_18 => exact .refl

/-- Every row of the host commands runs the body of one kind (R131). -/
theorem exec_hostCommand_body {c : Instr} (h : c ∈ hostCommandSteps) (s : State) :
    ∃ (p : Byte → Bool) (k : Byte), exec c s = .next (s.commandStep p (s.commandBody k)) := by
  obtain ⟨j, rfl⟩ := List.get_of_mem h
  induction j using Fin.lastCases with
  | last => exact ⟨badKind, 0, rfl⟩
  | cast j =>
    have hj : j.val < 17 := j.isLt
    exact ⟨_, BitVec.ofNat 8 (j.val + 1), exec_commandRow s j (by rw [BitVec.toNat_ofNat]; omega)⟩

theorem hostCommand_reservationEffects {c : Instr} (hc : c ∈ hostCommandSteps) {s t : State} (h : exec c s = .next t) :
    ReservationEffects s t := by
  obtain ⟨p, k, hexec⟩ := exec_hostCommand_body hc s
  rw [hexec] at h
  refine .of_next h ?_
  rcases commandStep_cases s p (s.commandBody k) with hsame | ⟨k', a, -, -, hrun⟩
  · rw [hsame]
  · rw [hrun]
    exact ReservationEffects.serve ((commandBody_reservationEffects s k a).then_eq rfl rfl)

/-! ### Steps of the decision point -/

theorem newItem_reservationEffects (s : State) (n : AgentId) (it : Item) (rest : List Item) :
    ReservationEffects s ((s.afterTaking n rest).decideItem n it) :=
  (decideItem_reservationEffects (s.afterTaking n rest) n it).after_eq rfl rfl

theorem takeNewItem_reservationEffects (s : State) (p : Item → Bool) : ReservationEffects s (s.takeNewItem p) := by
  rcases takeNewItem_cases s p with h | ⟨n, it, rest, -, -, h⟩ <;> rw [h]
  exact (newItem_reservationEffects s n it rest).serve

theorem replayDecided_reservationEffects (s : State) : ReservationEffects s s.replayDecided := by
  unfold State.replayDecided
  split
  · exact .refl
  · rename_i r rest _
    exact (decideRequest_reservationEffects (s.replayTaken rest) r.request).after_eq rfl rfl

theorem ageReservations_effect (s : State) : ReservationEffect s s.ageReservations :=
  .aged s.config.lifetime (fun _ => mapIdx_fin ..) rfl

/-- Of the duties of the epoch step the reservation ageing alone changes a reservation (R33). -/
theorem epochDuties_reservationEffects (s : State) : ReservationEffects s s.dropEpoch.epochDuties := by
  have hparked : ReservationEffects s s.dropEpoch.ageParked :=
    .of_eq (ageParked_resv _) (sameTranslation_ageParked s.dropEpoch).bindings
  have haged : ReservationEffects s s.dropEpoch.ageParked.ageReservations := hparked.tail (ageReservations_effect _)
  exact haged.then_eq (State.epochTick_resv _) (State.epochTick_bindings _)

theorem softReset_effect (s : State) : ReservationEffect s s.softReset :=
  .cleared (fun _ => true) (fun n => (mapIdx_fin (fun _ _ => Reservation.cleared) s.resv n).trans (if_pos rfl).symm) rfl

theorem takeEpochStep_reservationEffects (s : State) : ReservationEffects s s.takeEpochStep := by
  unfold State.takeEpochStep State.epochStep
  split
  · split
    · exact ReservationEffects.after_eq (.single (softReset_effect s.dropEpoch)) rfl rfl
    · exact (epochDuties_reservationEffects s).serve
  · exact .refl

theorem tickWhere_reservationEffects (s : State) (p : Timer → Bool) : ReservationEffects s (s.tickWhere p) := by
  unfold State.tickWhere
  split_ifs
  · exact takeEpochStep_reservationEffects s
  · exact .refl
  · exact .of_eq rfl rfl
  · exact .refl

/-- The port reset step clears the reservation of its agent (R16). -/
theorem portResetStep_reservationEffects (s : State) (n : AgentId) : ReservationEffects s (s.portResetStep n) :=
  ReservationEffects.after_eq (.single (clearReservation_effect _ n)) rfl rfl

/-- The state that the service of the backlog finds (R86). -/
theorem beforeService_reservationEffects {s u : State} (h : s.beforeService = some u) : ReservationEffects s u := by
  unfold State.beforeService at h
  split at h
  case h_1 => split at h <;> cases h; exact epochDuties_reservationEffects s
  case h_3 => cases h; exact replayDecided_reservationEffects s
  case h_4 =>
    obtain ⟨e, -, rfl⟩ := Option.map_eq_some_iff.1 h
    exact (commandBody_reservationEffects s e.kind e.args).then_eq rfl rfl
  case h_5 n hnext =>
    obtain ⟨it, rest, hserves⟩ := servesItem_of_nextStep hnext
    cases h
    unfold State.newItemDecided
    rw [hserves.2.2]
    exact newItem_reservationEffects s n it rest
  all_goals cases h

theorem backlogService_reservationEffects {s t : State} (h : execBacklogService s = .next t) : ReservationEffects s t := by
  rcases execBacklogService_cases s with hsame | ⟨u, hu, -, hserve⟩
  · rw [hsame] at h; exact .of_next h .refl
  · rw [hserve] at h; exact .of_next h (beforeService_reservationEffects hu).serve

/-! ### The links, the host port and time -/

theorem takeIn_reservationEffects (s : State) (n : AgentId) (m : Message) : ReservationEffects s (s.takeIn n m) := by
  unfold State.takeIn
  split
  · exact .of_eq (by simp) (by simp)
  · exact .refl

theorem assertPortReset_reservationEffects (s : State) (n : AgentId) : ReservationEffects s (s.assertPortReset n) := by
  unfold State.assertPortReset
  split <;> exact .of_eq rfl rfl

theorem sendDownstream_reservationEffects (s : State) : ReservationEffects s s.sendDownstream := by
  unfold State.sendDownstream
  split <;> exact .of_eq rfl rfl

theorem downResponse_reservationEffects (s : State) (g : GatewayTag) (st : MemStatus) (d : List Byte) :
    ReservationEffects s (s.downResponse g st d) := by
  rcases downResponse_cases s g st d with h | ⟨r, -, -, ⟨-, h⟩ | ⟨-, h⟩⟩ <;> rw [h]
  · exact .of_eq rfl rfl
  · exact .of_eq rfl rfl
  · unfold State.relay
    cases st <;> exact .of_eq (by simp) (by simp)

theorem issueCommand_reservationEffects (s : State) (v : Word) : ReservationEffects s (s.issueCommand v) := by
  unfold State.issueCommand
  split <;> exact .of_eq (by simp) (by simp)

theorem missPop_reservationEffects (s : State) : ReservationEffects s s.missPop := by
  unfold State.missPop
  split <;> exact .of_eq rfl rfl

theorem writeEffect_reservationEffects (s : State) (o : BitVec 8) (v : Word) : ReservationEffects s (s.writeEffect o v) := by
  unfold State.writeEffect
  split
  case h_6 => exact issueCommand_reservationEffects s v
  case h_9 => exact missPop_reservationEffects s
  all_goals exact .of_eq rfl rfl

theorem hostRead_reservationEffects (s : State) (o : BitVec 8) : ReservationEffects s (s.hostRead o) := by
  unfold State.hostRead
  split <;> exact .of_eq rfl rfl

theorem hostAccess_reservationEffects (s : State) (a : HostAccess) : ReservationEffects s (s.hostAccess a) := by
  unfold State.hostAccess
  split
  · split
    · exact (writeEffect_reservationEffects s _ _).then_eq rfl rfl
    · exact hostRead_reservationEffects ..
  · exact .of_eq rfl rfl

theorem tbclk_reservationEffects (s : State) : ReservationEffects s s.tbclk := by
  have hepoch : ReservationEffects s s.epochPeriodTick := by
    unfold State.epochPeriodTick; split <;> exact .of_eq rfl rfl
  have htimer (t : State) : ReservationEffects t t.timerPeriod := by
    unfold State.timerPeriod; split_ifs <;> exact .of_eq rfl rfl
  exact ReservationEffects.then_eq (hepoch.trans (htimer _)) rfl rfl

/-! ### Every step -/

/-- Power-on reset leaves no agent bound and no reservation (R158). -/
theorem powerOn_effect (s : State) (pins : Pins) :
    ReservationEffect s { State.poweredOn pins with out := s.out, pending := s.pending } := by
  refine .unbound (fun _ => true) (fun n => ?_) fun n => ?_
  · show (Vector.replicate 8 Reservation.cleared)[n] = _
    rw [Fin.getElem_fin, Vector.getElem_replicate, if_pos rfl]
  · show (Vector.replicate 8 none)[n] = _
    rw [Fin.getElem_fin, Vector.getElem_replicate, if_pos rfl]

/-- Every command that answers with a state reaches it by reservation effects. -/
theorem exec_reservationEffects {c : Instr} {s t : State} (h : exec c s = .next t) : ReservationEffects s t := by
  cases c with
  | powerOnReset pins => exact .of_next h (.single (powerOn_effect s pins))
  | insertAddress | insertRights | purgeEntry | purgeSegment | purgeAll | readEntry | probe | bindAgent | unbindAgent
  | writeContext | readContext | suspendContext | resumeContext | abortParked | clearReservation | enterStandby
  | armSoftReset | badCommand => exact hostCommand_reservationEffects (by decide) h
  | admission n m =>
    have hadm : (if m.linkOk then .next (s.takeIn n m) else .fault .linkBroken : Answer) = .next t := h
    split at hadm
    · exact .of_next hadm (takeIn_reservationEffects s n m)
    · cases hadm
  | agrstNAssertion n => exact .of_next h (assertPortReset_reservationEffects s n)
  | portResetStep =>
    refine .of_next h ?_
    split
    · exact portResetStep_reservationEffects ..
    · exact .refl
  | newAgentItemStep | signal | tagInUse => exact .of_next h (takeNewItem_reservationEffects s _)
  | replayStep =>
    refine .of_next h ?_
    split
    · exact (replayDecided_reservationEffects s).serve
    · exact .refl
  | downstreamRequest => exact .of_next h (sendDownstream_reservationEffects s)
  | downstreamResponse g st d => exact .of_next h (downResponse_reservationEffects s g st d)
  | epochStep => exact .of_next h (takeEpochStep_reservationEffects s)
  | missTimeout | reservationExpiry =>
    refine .of_next h ?_
    split
    · exact takeEpochStep_reservationEffects s
    · exact .refl
  | backlogService => exact backlogService_reservationEffects h
  | cmdIssue v => exact .of_next h ((issueCommand_reservationEffects s v).then_eq rfl rfl)
  | missPop v => exact .of_next h ((missPop_reservationEffects s).then_eq rfl rfl)
  | timerTick | intervalMatch | timerOverflow => exact .of_next h (tickWhere_reservationEffects s _)
  | srstNHigh =>
    refine .of_next h ?_
    split <;> exact .of_eq rfl rfl
  | hostAccessError a => exact .of_next h (hostAccess_reservationEffects s a)
  | registerWrite o v => exact .of_next h (hostAccess_reservationEffects s _)
  | agrstNRelease | epochEvent | resultPop | faultPop | cmdDroppedClear | eventRaise | eventClear | eventPermit
  | deliverEnable | claim | complete | serviceStatusClear | extEventConfig | evPinChange | filteredLevelChange
  | signalCodeRead | epochStatusRead | deviceConfig | timerControl | resetAction | timerCompare | timerStatusClear
  | srstNLow | portReady => exact .of_next h (.of_eq rfl rfl)

/-- Every step reaches its state by reservation effects. -/
theorem step_reservationEffects {s t : State} (h : step s = .next t) : ReservationEffects s t := by
  unfold step at h
  split at h
  · exact .of_next h (tbclk_reservationEffects s)
  · exact (exec_reservationEffects h).after_eq rfl rfl

/-! ### Sound reservations -/

/-- The reservation of an agent with the binding `b` is sound: a clear one holds 0, its line is aligned, and an unbound agent
holds none (R95). -/
abbrev Reservation.SoundFor (r : Reservation) (b : Option ContextId) : Prop :=
  (r.valid = false → r = Reservation.cleared) ∧ r.line.toNat % 32 = 0 ∧ (b = none → r.valid = false)

theorem reservationsSound_iff (s : State) :
    s.ReservationsSound ↔ ∀ n : AgentId, s.resv[n].SoundFor s.bindings[n] := Iff.rfl

theorem Reservation.soundFor_cleared (b : Option ContextId) : Reservation.cleared.SoundFor b :=
  ⟨fun _ => rfl, rfl, fun _ => rfl⟩

/-- The line of an address is a multiple of 32 (R96). -/
theorem lineOf_aligned (a : Word) : (lineOf a).toNat % 32 = 0 := by
  have hline := (eq_lineOf_iff (lineOf a) a).1 rfl
  omega

/-- A valid reservation of an aligned line is sound for a bound agent. -/
theorem Reservation.soundFor_of_valid {r : Reservation} (hvalid : r.valid = true) (hline : r.line.toNat % 32 = 0)
    {b : Option ContextId} (hb : b ≠ none) : r.SoundFor b :=
  ⟨fun h => absurd (hvalid.symm.trans h) Bool.noConfusion, hline, fun h => absurd h hb⟩

theorem Reservation.SoundFor.older {r : Reservation} {b : Option ContextId} (h : r.SoundFor b) (lifetime : BitVec 4) :
    (r.older lifetime).SoundFor b := by
  cases hvalid : r.valid with
  | false => rw [Reservation.older_of_clear lifetime hvalid]; exact h
  | true =>
    rw [Reservation.older_of_valid lifetime hvalid]
    split
    · exact Reservation.soundFor_cleared b
    · obtain ⟨-, hline, hunbound⟩ := h
      have hbound : b ≠ none := fun hb => Bool.noConfusion (hvalid.symm.trans (hunbound hb))
      exact Reservation.soundFor_of_valid (r := { r with age := satInc 15 r.age }) hvalid hline hbound

/-- Each reservation effect keeps the reservations sound. -/
theorem ReservationEffect.reservationsSound {s t : State} (he : ReservationEffect s t) (hs : s.ReservationsSound) :
    t.ReservationsSound := by
  rw [reservationsSound_iff] at hs ⊢
  intro n
  cases he with
  | cleared p hresv hbindings =>
    rw [hresv n, hbindings]
    split
    · exact Reservation.soundFor_cleared _
    · exact hs n
  | aged lifetime hresv hbindings =>
    rw [hresv n, hbindings]
    exact (hs n).older lifetime
  | reserved m bank addr hbound hresv hbindings =>
    rw [hresv, hbindings, set_getElem_fin]
    split
    · rename_i hn
      exact Reservation.soundFor_of_valid rfl (lineOf_aligned addr) (hn ▸ hbound)
    · exact hs n
  | bound m c hresv hbindings =>
    obtain ⟨hclear, hline, hunbound⟩ := hs n
    rw [hresv, hbindings, set_getElem_fin]
    refine ⟨hclear, hline, fun hn => ?_⟩
    split at hn
    · cases hn
    · exact hunbound hn
  | unbound p hresv hbindings =>
    rw [hresv n, hbindings n]
    split
    · exact Reservation.soundFor_cleared _
    · exact hs n

/-- Settles O53: each reservation effect of a step keeps the reservations sound. -/
theorem reservationsStaySound : Obligations.ReservationsStaySound := by
  intro s t hs h
  have hchain := step_reservationEffects h
  clear h
  induction hchain with
  | refl => exact hs
  | tail _ he ih => exact he.reservationsSound ih

end Sys2Proof.Machine
end

section
/-! A ConditionalWrite at the reservation monitor: issued on its own reservation, and else ended as CondFail. -/

namespace Sys2Proof.Machine

/-- A reservation covers a request where it is valid on the line of the request's address (R96, R98). -/
theorem Reservation.covers_iff (v : Reservation) (b : BitVec 4) (a : Word) :
    v.covers b a = true ↔ v.valid = true ∧ v.bank = b ∧ v.line.toNat = a.toNat - a.toNat % 32 := by
  simp only [Reservation.covers, Bool.and_eq_true, decide_eq_true_eq, eq_lineOf_iff, and_assoc]

/-- The reservations after an issued ConditionalWrite: those of the other agents as after a Write, its own cleared (R98,
R99). -/
def State.resvAfterConditionalWrite (s : State) (r : Request) (bank : BitVec 4) (addr : Word) : Vector Reservation 8 :=
  (s.resvAfterWrite r bank addr).set r.agent Reservation.cleared

theorem resvAfterConditionalWrite_own (s : State) (r : Request) (b : BitVec 4) (a : Word) :
    (s.resvAfterConditionalWrite r b a)[r.agent] = Reservation.cleared :=
  (set_getElem_fin ..).trans (if_pos rfl)

theorem resvAfterConditionalWrite_other (s : State) {r : Request} (b : BitVec 4) (a : Word) {n : AgentId}
    (hn : n ≠ r.agent) : (s.resvAfterConditionalWrite r b a)[n] = (s.resvAfterWrite r b a)[n] :=
  (set_getElem_fin ..).trans (if_neg hn)

section
variable {s : State} {r : Request} {b : BitVec 4} {a : Word} (h : r.acc.kind = .conditionalWrite)
include h

/-- On its own reservation a ConditionalWrite is issued, marks its entry and clears reservations (R63, R98, R99). -/
theorem passRequest_of_covered (hcovers : s.resv[r.agent].covers b a = true) (c : ContextId) (hit : Option EntryId) :
    s.passRequest r c b a hit =
      { (s.issue r c b a).markEntry hit (·.markIssued .conditionalWrite) with
        resv := s.resvAfterConditionalWrite r b a } := by
  have hresv : ((s.issue r c b a).markEntry hit (·.markIssued .conditionalWrite)).resv = s.resv := by simp
  simp only [State.passRequest, h, hcovers, if_true, State.resvAfterConditionalWrite, State.resvAfterWrite,
    State.writeClears, State.clearReservationsWhere, State.clearReservation, hresv]

/-- Without one it ends as CondFail: its entry is marked as referenced and its reservation cleared (R63, R98). -/
theorem passRequest_of_not_covered (hcovers : ¬ s.resv[r.agent].covers b a = true) (c : ContextId)
    (hit : Option EntryId) :
    s.passRequest r c b a hit =
      ((s.respond r.agent r.tag .condFail).markEntry hit (·.markCondFail)).clearReservation r.agent := by
  simp only [State.passRequest, h, if_neg hcovers]

/-- The downstream request of a ConditionalWrite is a Write with its data (R108). -/
theorem Request.downRequest_of_conditionalWrite (g : GatewayTag) :
    r.downRequest g b a = { gtag := g, kind := .write, bank := b, addr := a, len := r.acc.len, data := r.acc.data } := by
  simp [Request.downRequest, AccessKind.down, AccessKind.isWriteType, h]

end

/-- An issued ConditionalWrite leaves its entry as an issued Write does (R63). -/
theorem Entry.markIssued_conditionalWrite (e : Entry) :
    e.markIssued .conditionalWrite = { e with referenced := true, modified := true } := e.markIssued_write

/-- A response is the same whether the entry is marked and the reservation cleared after it or before it (R12, R98). -/
theorem respond_markEntry_clearReservation (s : State) (n : AgentId) (t : AgentTag) (o : Outcome) (hit : Option EntryId)
    (f : Entry → Entry) :
    ((s.respond n t o).markEntry hit f).clearReservation n =
      State.respond
        { s with
          resv := s.resv.set n Reservation.cleared
          cache := match hit with
            | none => s.cache
            | some i => { s.cache with entries := s.cache.entries.set i (f s.cache.entries[i]) } } n t o := by
  simp only [State.respond_eq]
  cases hit <;> rfl

/-- Settles O22: the reservation of the request's agent decides, and R99 says what an issued write clears. -/
theorem conditionalWriteTestsReservation : Obligations.ConditionalWriteTestsReservation := by
  intro s r c bank addr hit g hfree hkind hlen
  rw [← Reservation.covers_iff]
  refine ⟨fun hcovers => ⟨_, passRequest_of_covered hkind hcovers c hit, ?_, ?_, ?_,
    resvAfterConditionalWrite_own s r bank addr, fun n hn => ?_⟩, fun hcovers => ?_⟩
  · rw [markEntry_eq, State.issue_eq s r c bank addr g hfree]
  · rw [State.markEntry_sys, State.issue_eq s r c bank addr g hfree, Request.downRequest_of_conditionalWrite hkind,
      Request.outRecord, hkind]
  · cases hit with
    | none => exact State.issue_cache ..
    | some i => simp only [State.markEntry, State.issue_cache, Entry.markIssued_conditionalWrite]
  · rw [resvAfterConditionalWrite_other s bank addr hn, resvAfterWrite_other s bank addr hlen hn]
    exact ⟨fun h => if_pos h, fun h => if_neg h⟩
  · rw [passRequest_of_not_covered hkind hcovers, respond_markEntry_clearReservation]
    rfl

end Sys2Proof.Machine
end

section
/-! The system port and the fault log: the send queue, what a response does by the record it finds, and the fault record (R12, R108
to R113, R117). -/

namespace Sys2Proof.Machine

/-! ### The fault log -/

/-- Settles O26, by whether the log has room. -/
theorem faultRecordIsKeptOrCounted : Obligations.FaultRecordIsKeptOrCounted := by
  intro s k n c t q addr
  refine ⟨fun hroom => ?_, fun hfull => ?_⟩
  · rw [State.addFault, if_pos hroom, EventBlock.raise, bit_faultLogged]
  · rw [State.addFault, if_neg (by omega), EventBlock.raise, bit_serviceError]
    rfl

/-! ### The send queue -/

theorem exec_downstreamRequest (s : State) : exec .downstreamRequest s = .next s.sendDownstream := rfl

/-- Settles O23, by whether a request waits. -/
theorem sendQueueIsFirstInFirstOut : Obligations.SendQueueIsFirstInFirstOut := by
  refine fun s => ⟨fun q rest hq => ?_, fun hempty => ?_⟩
  · rw [exec_downstreamRequest, State.sendDownstream, hq]
    rfl
  · rw [exec_downstreamRequest, State.sendDownstream, hempty]

/-! ### Responses -/

theorem exec_downstreamResponse (s : State) (g : GatewayTag) (st : MemStatus) (d : List Byte) :
    exec (.downstreamResponse g st d) s = .next (s.downResponse g st d) := rfl

/-- A response for a request that was sent is discarded where the record is orphaned, and else a completion (R110 to R112). -/
theorem downResponse_of_sent {s : State} {g : GatewayTag} {r : OutRecord} (h : s.Sent g r) (st : MemStatus)
    (d : List Byte) :
    s.downResponse g st d = if r.orphaned = true then s.discard g r else (s.relay r st d).freeGateway g := by
  have hrecord : s.sys.table[g] = some r := h.1
  simp only [State.downResponse, hrecord, unsent_eq_false s g r h, Bool.false_eq_true, if_false, State.discard]

/-- The request of a gateway tag waits in the send queue (R109). -/
theorem unsent_iff (y : SysPort) (g : GatewayTag) : y.unsent g = true ↔ ∃ q ∈ y.sendq, q.gtag = g := by
  simp only [SysPort.unsent, List.any_eq_true, decide_eq_true_eq]

/-- A response for a free gateway tag, or for a request not yet sent, is stray (R109, R113). -/
theorem downResponse_of_not_sent {s : State} {g : GatewayTag} (h : s.sys.table[g] = none ∨ s.sys.unsent g = true)
    (st : MemStatus) (d : List Byte) : s.downResponse g st d = { s with sys := { s.sys with stray := true } } := by
  unfold State.downResponse
  split
  · rfl
  · rename_i r hrecord
    rw [if_pos (h.resolve_left (by rw [hrecord]; exact Option.some_ne_none r))]

/-- Settles O25: an orphaned record's response is discarded, a stray one is only marked. -/
theorem orphanedAndStrayResponsesEndUnseen : Obligations.OrphanedAndStrayResponsesEndUnseen := by
  refine ⟨fun s g r st d hsent horphaned => ?_, fun s g st d hnot => ?_⟩
  · rw [exec_downstreamResponse, downResponse_of_sent hsent, if_pos horphaned]
    rfl
  · rw [exec_downstreamResponse, downResponse_of_not_sent (hnot.imp_right (unsent_iff s.sys g).2)]

theorem AccessKind.isReadType_iff (k : AccessKind) :
    k.isReadType = true ↔ k = .read ∨ k = .fetch ∨ k = .reserveRead := by
  cases k <;> decide

/-- The outcome OK of a completion: the record's length in read data for a read-type kind (R109, R110). -/
theorem OutRecord.outcome_ok (r : OutRecord) (d : List Byte) :
    r.outcome .ok d = .done (if r.kind = .read ∨ r.kind = .fetch ∨ r.kind = .reserveRead then
      (List.range r.len.toNat).map fun i => d.getD i 0 else []) := by
  simp only [OutRecord.outcome, AccessKind.isReadType_iff, fitData_eq]

/-- Settles O24: the response with its tag, and then the completion by its status. -/
theorem completionFinishesTheRequest : Obligations.CompletionFinishesTheRequest := by
  refine ⟨fun s n t o => State.respond_eq s n t o, fun s g r d hsent hlive freed hfreed => ?_⟩
  have hexec (st : MemStatus) :
      exec (.downstreamResponse g st d) s = .next { s.relay r st d with sys := freed } := by
    rw [exec_downstreamResponse, downResponse_of_sent hsent, if_neg (by rw [hlive]; exact Bool.false_ne_true),
      State.freeGateway, relay_sys, hfreed]
  rw [← OutRecord.outcome_ok]
  exact ⟨hexec .ok, hexec .error⟩

end Sys2Proof.Machine
end

section
/-! PORT_READY and EnterStandby: the standby cycle's two ends (R114, R163). -/

namespace Sys2Proof.Machine

/-- EnterStandby finds the gateway idle where no request and no command but itself is in it (R163). -/
theorem idleForStandby_iff (s : State) :
    s.idleForStandby = true ↔ (∀ n : AgentId, s.ports[n].line = []) ∧ s.miss.parked = [] ∧ s.dp.replay = [] ∧
      (∀ g : GatewayTag, s.sys.table[g] = none) ∧ s.cmd.fifo.length = 1 := by
  simp only [State.idleForStandby, Bool.and_eq_true, List.all_eq_true, List.mem_finRange, forall_const, List.isEmpty_iff,
    allCreditsFree_iff, decide_eq_true_eq, and_assoc]

theorem cmdEnterStandby_of_idle {s : State} (h : s.idleForStandby = true) (a : Vector Word 4) :
    s.cmdEnterStandby a = ⟨{ s with power := { s.power with device := .standby } }, .ok, 0, 0⟩ := if_pos h

theorem cmdEnterStandby_of_not_idle {s : State} (h : ¬ s.idleForStandby = true) (a : Vector Word 4) :
    s.cmdEnterStandby a = s.fails .notIdle := if_neg h

/-- PORT_READY takes its level, and ends Waking where it is high (R114). -/
theorem exec_portReady (s : State) (level : Bool) :
    exec (.portReady level) s = .next { s with power := { s.power with
      portReady := level
      device := if s.power.device = .waking ∧ level = true then .operational else s.power.device } } := by
  show execPortReady level s = _
  simp only [execPortReady, Bool.and_eq_true, decide_eq_true_eq, and_comm]

/-- Settles O7: EnterStandby by whether the gateway is idle. -/
theorem standbyAndPortReady : Obligations.StandbyAndPortReady := by
  intro s
  refine ⟨exec_portReady s, decide_eq_true_iff, fun a hhead => ?_⟩
  rw [← idleForStandby_iff]
  exact ⟨fun hidle => commandStep_of_body hhead (cmdEnterStandby_of_idle hidle a),
    fun hbusy => commandStep_of_body hhead (cmdEnterStandby_of_not_idle hbusy a)⟩

end Sys2Proof.Machine
end

section
/-! What a command does to StrayResponse, the power block and the epoch generator, and so to the marks that the resets clear: all
but a few rows leave the three as they are (`State.SameControl`), and of those the soft reset alone clears a mark (R113, R151, R157,
R160, R162). -/

namespace Sys2Proof.Machine

/-! ### States with one control -/

/-- `t` differs from `s` in nothing of the power block and the epoch generator, and not in StrayResponse. -/
structure State.SameControl (s t : State) : Prop where
  stray : t.sys.stray = s.sys.stray
  power : t.power = s.power
  epoch : t.epoch = s.epoch

theorem State.SameControl.refl (s : State) : s.SameControl s := ⟨rfl, rfl, rfl⟩

theorem State.SameControl.trans {s t u : State} (h : s.SameControl t) (h' : t.SameControl u) : s.SameControl u :=
  ⟨h'.stray.trans h.stray, h'.power.trans h.power, h'.epoch.trans h.epoch⟩

/-- The same, after a first change that leaves the control. -/
theorem State.SameControl.after {s t u : State} (h : t.SameControl u) (h' : s.SameControl t) : s.SameControl u := h'.trans h

/-- A change that leaves the whole system port, the power block and the epoch generator. -/
theorem State.SameControl.of_eq {s t : State} (hsys : t.sys = s.sys) (hpower : t.power = s.power)
    (hepoch : t.epoch = s.epoch) : s.SameControl t := ⟨by rw [hsys], hpower, hepoch⟩

theorem State.SameControl.serve {s t : State} (h : s.SameControl t) : s.SameControl t.serveBacklog :=
  h.trans ⟨rfl, rfl, rfl⟩

/-! ### Requests -/

theorem sameControl_faultRequest (s : State) (r : Request) (k : FaultKind) (c : Option ContextId) :
    s.SameControl (s.faultRequest r k c) := .of_eq (by simp) (by simp) (by simp)

theorem sameControl_missRequest (s : State) (r : Request) (c : ContextId) (k : Key) :
    s.SameControl (s.missRequest r c k) := by
  unfold State.missRequest
  split
  · split
    · exact sameControl_faultRequest ..
    · exact ⟨rfl, rfl, rfl⟩
  · exact (sameControl_faultRequest s r .miss (some c)).trans (.of_eq (by simp) (by simp) (by simp))

/-- The issue of a request changes the table and the send queue of the system port alone (R107, R108). -/
theorem issue_stray (s : State) (r : Request) (c : ContextId) (b : BitVec 4) (a : Word) :
    (s.issue r c b a).sys.stray = s.sys.stray := by
  unfold State.issue
  split <;> rfl

theorem sameControl_issue (s : State) (r : Request) (c : ContextId) (b : BitVec 4) (a : Word) (hit : Option EntryId)
    (f : Entry → Entry) : s.SameControl ((s.issue r c b a).markEntry hit f) :=
  ⟨by rw [State.markEntry_sys, issue_stray], by simp, by simp⟩

theorem sameControl_passRequest (s : State) (r : Request) (c : ContextId) (b : BitVec 4) (a : Word)
    (hit : Option EntryId) : s.SameControl (s.passRequest r c b a hit) := by
  have hissue := sameControl_issue s r c b a hit
  unfold State.passRequest
  split
  case h_1 | h_2 => exact hissue _
  case h_3 | h_4 => exact (hissue _).trans ⟨rfl, rfl, rfl⟩
  case h_5 =>
    split
    · exact (hissue _).trans ⟨rfl, rfl, rfl⟩
    · exact .of_eq (by simp) (by simp) (by simp)

theorem sameControl_decideRequest (s : State) (r : Request) : s.SameControl (s.decideRequest r) := by
  unfold State.decideRequest
  split
  · exact sameControl_faultRequest ..
  · split
    · exact sameControl_faultRequest ..
    · split
      · exact sameControl_faultRequest ..
      · exact sameControl_missRequest ..
      · exact sameControl_passRequest ..

theorem sameControl_decideItem (s : State) (n : AgentId) (it : Item) : s.SameControl (s.decideItem n it) := by
  rcases decideItem_cases s n it with ⟨-, q, a, h⟩ | ⟨-, code, h⟩ | ⟨-, -, r, -, -, h⟩ <;> rw [h]
  · exact .of_eq (by simp) (by simp) (by simp)
  · exact .of_eq (by simp) (by simp) (by simp)
  · exact sameControl_decideRequest s r

/-! ### Steps of the decision point -/

theorem sameControl_newItem (s : State) (n : AgentId) (it : Item) (rest : List Item) :
    s.SameControl ((s.afterTaking n rest).decideItem n it) :=
  (sameControl_decideItem (s.afterTaking n rest) n it).after ⟨rfl, rfl, rfl⟩

theorem sameControl_takeNewItem (s : State) (p : Item → Bool) : s.SameControl (s.takeNewItem p) := by
  rcases takeNewItem_cases s p with h | ⟨n, it, rest, -, -, h⟩ <;> rw [h]
  · exact .refl s
  · exact (sameControl_newItem s n it rest).serve

theorem sameControl_replayDecided (s : State) : s.SameControl s.replayDecided := by
  unfold State.replayDecided
  split
  · exact .refl s
  · rename_i r rest _
    exact (sameControl_decideRequest (s.replayTaken rest) r.request).after ⟨rfl, rfl, rfl⟩

theorem sameControl_ageParked (s : State) : s.SameControl s.ageParked :=
  .of_eq (foldl_keeps _ State.sys (fun _ _ => State.finishParked_sys ..) _ _)
    (foldl_keeps _ State.power (fun _ _ => State.finishParked_power ..) _ _)
    (foldl_keeps _ State.epoch (fun _ _ => State.finishParked_epoch ..) _ _)

/-- Duties 2 to 4 of the epoch step (R33). -/
theorem sameControl_epochDuties (s : State) : s.SameControl s.dropEpoch.epochDuties :=
  have haged : s.SameControl s.dropEpoch.ageParked := (sameControl_ageParked s.dropEpoch).after ⟨rfl, rfl, rfl⟩
  haged.trans (.of_eq (by simp [State.epochDuties]) (by simp [State.epochDuties]) (by simp [State.epochDuties]))

/-- The epoch step that finds the soft reset due performs it and nothing else (R33, R161). -/
theorem takeEpochStep_of_due {s : State} {mark : Bool} (he : s.dp.epoch = some mark) (hdue : s.softResetDue mark = true) :
    s.takeEpochStep = s.dropEpoch.softReset := by
  have hdrop : s.dropEpoch.softResetDue mark = true := hdue
  simp only [State.takeEpochStep, he, State.epochStep, hdrop, if_true]

/-- The epoch step performs the soft reset, or leaves the control as it is (R33, R161). -/
theorem takeEpochStep_cases (s : State) :
    s.SameControl s.takeEpochStep ∨
      ∃ mark, s.dp.epoch = some mark ∧ s.softResetDue mark = true ∧ s.takeEpochStep = s.dropEpoch.softReset := by
  cases he : s.dp.epoch with
  | none => left; simp only [State.takeEpochStep, he]; exact .refl s
  | some mark =>
    cases hdue : s.softResetDue mark with
    | false => left; rw [takeEpochStep_of_not_due he hdue]; exact (sameControl_epochDuties s).serve
    | true => exact .inr ⟨mark, rfl, hdue, takeEpochStep_of_due he hdue⟩

/-- An epoch step that ages is no soft reset (R161). -/
theorem sameControl_of_ageingStepPending {s : State} (h : s.ageingStepPending = true) : s.SameControl s.takeEpochStep := by
  rcases takeEpochStep_cases s with hsame | ⟨mark, he, hdue, -⟩
  · exact hsame
  · simp [State.ageingStepPending, he, hdue] at h

theorem sameControl_tickWhere (s : State) (p : Timer → Bool) : s.SameControl (s.tickWhere p) := by
  unfold State.tickWhere
  split_ifs with _ _ hpending
  · exact sameControl_of_ageingStepPending hpending
  · exact .refl s
  · exact ⟨rfl, rfl, rfl⟩
  · exact .refl s

/-! ### The links and the host port -/

theorem sameControl_assertPortReset (s : State) (n : AgentId) : s.SameControl (s.assertPortReset n) := by
  unfold State.assertPortReset
  split <;> exact ⟨rfl, rfl, rfl⟩

theorem sameControl_sendDownstream (s : State) : s.SameControl s.sendDownstream := by
  unfold State.sendDownstream
  split <;> exact ⟨rfl, rfl, rfl⟩

theorem sameControl_relay (s : State) (r : OutRecord) (st : MemStatus) (d : List Byte) :
    s.SameControl (s.relay r st d) := by
  cases st <;> exact .of_eq (relay_sys ..) (by simp [State.relay]) (by simp [State.relay])

theorem sameControl_missPop (s : State) : s.SameControl s.missPop := by
  unfold State.missPop
  split <;> exact ⟨rfl, rfl, rfl⟩

/-! ### Host commands -/

theorem sameControl_insertAddress (s : State) (k : Key) (b : BitVec 4) (f : BitVec 20) (p : Bool) :
    s.SameControl (s.insertAddress k b f p).state := by
  unfold State.insertAddress
  split
  · exact ⟨rfl, rfl, rfl⟩
  · split
    · exact ⟨rfl, rfl, rfl⟩
    · split <;> exact ⟨rfl, rfl, rfl⟩

theorem sameControl_purgeMany (s : State) (p : Entry → Bool) : s.SameControl (s.purgeMany p).state :=
  .of_eq (State.purgeWhere_sys s p) (State.purgeWhere_power s p) (State.purgeWhere_epoch s p)

theorem sameControl_abortKey (s : State) (k : Key) : s.SameControl (s.abortKey k) :=
  .of_eq (foldl_keeps _ State.sys (fun _ _ => State.finishParked_sys ..) _ _)
    (foldl_keeps _ State.power (fun _ _ => State.finishParked_power ..) _ _)
    (foldl_keeps _ State.epoch (fun _ _ => State.finishParked_epoch ..) _ _)

theorem sameControl_cmdSetSuspended (s : State) (a : Vector Word 4) (v : Bool) :
    s.SameControl (s.cmdSetSuspended a v).state := by
  unfold State.cmdSetSuspended
  split <;> exact ⟨rfl, rfl, rfl⟩

/-- Of the commands EnterStandby and ArmSoftReset alone change the control (R131, R160, R163). -/
theorem sameControl_commandBody (s : State) {k : Byte} (hstandby : k.toNat ≠ 16) (harm : k.toNat ≠ 17)
    (a : Vector Word 4) : s.SameControl (s.commandBody k a).state := by
  generalize hbody : s.commandBody k = body
  unfold State.commandBody at hbody
  split at hbody <;> subst hbody
  case h_1 =>
    unfold State.cmdInsertAddress
    split
    · exact sameControl_insertAddress ..
    · exact .refl s
  case h_2 =>
    unfold State.cmdInsertRights State.insertRights
    split
    · split <;> exact ⟨rfl, rfl, rfl⟩
    · exact .refl s
  case h_3 =>
    unfold State.cmdPurgeEntry
    split
    · split <;> exact ⟨rfl, rfl, rfl⟩
    · exact .refl s
  case h_4 =>
    unfold State.cmdPurgeSegment
    split
    · exact sameControl_purgeMany ..
    · exact .refl s
  case h_5 =>
    unfold State.cmdPurgeAll
    split
    · exact sameControl_purgeMany ..
    · exact .refl s
  case h_6 => unfold State.cmdReadEntry; split <;> exact .refl s
  case h_7 =>
    unfold State.cmdProbe State.probeAnswer
    split
    · split <;> exact .refl s
    · exact .refl s
  case h_8 =>
    unfold State.cmdBindAgent
    split
    · split <;> exact ⟨rfl, rfl, rfl⟩
    · exact .refl s
  case h_9 =>
    unfold State.cmdUnbindAgent
    split
    · split <;> exact ⟨rfl, rfl, rfl⟩
    · exact .refl s
  case h_10 =>
    unfold State.cmdWriteContext
    split
    · split <;> exact ⟨rfl, rfl, rfl⟩
    · exact .refl s
  case h_11 =>
    unfold State.cmdReadContext
    split
    · split <;> exact .refl s
    · exact .refl s
  case h_12 => exact sameControl_cmdSetSuspended s a true
  case h_13 => exact sameControl_cmdSetSuspended s a false
  case h_14 =>
    unfold State.cmdAbortParked
    split
    · split
      · exact sameControl_abortKey ..
      · exact .refl s
    · exact .refl s
  case h_15 => unfold State.cmdClearReservation; split <;> exact ⟨rfl, rfl, rfl⟩
  case h_16 hkind => exact absurd hkind hstandby
  case h_17 hkind => exact absurd hkind harm
  case h_18 => exact .refl s

/-! ### Marks that stay -/

/-- No mark that is set in `s` is clear in `t`: StrayResponse, SoftResetSeen, Armed and ResetArmed. -/
structure State.KeepsMarks (s t : State) : Prop where
  stray : s.sys.stray = true → t.sys.stray = true
  softResetSeen : s.power.softResetSeen = true → t.power.softResetSeen = true
  armed : s.epoch.armed = true → t.epoch.armed = true
  resetArmed : s.power.resetArmed = true → t.power.resetArmed = true

theorem State.KeepsMarks.of_same {s t : State} (h : s.SameControl t) : s.KeepsMarks t where
  stray := by rw [h.stray]; exact id
  softResetSeen := by rw [h.power]; exact id
  armed := by rw [h.epoch]; exact id
  resetArmed := by rw [h.power]; exact id

theorem State.KeepsMarks.trans {s t u : State} (h : s.KeepsMarks t) (h' : t.KeepsMarks u) : s.KeepsMarks u :=
  ⟨h'.stray ∘ h.stray, h'.softResetSeen ∘ h.softResetSeen, h'.armed ∘ h.armed, h'.resetArmed ∘ h.resetArmed⟩

theorem State.KeepsMarks.of_next {s t u : State} (h : (.next u : Answer) = .next t) (hu : s.KeepsMarks u) :
    s.KeepsMarks t := by
  cases h; exact hu

/-- A change that leaves the control, after one that keeps the marks. -/
theorem State.KeepsMarks.then_same {s t u : State} (h : s.KeepsMarks t) (h' : t.SameControl u) : s.KeepsMarks u :=
  h.trans (.of_same h')

/-- A change that keeps the marks, after one that leaves the control. -/
theorem State.KeepsMarks.after_same {s t u : State} (h : t.KeepsMarks u) (h' : s.SameControl t) : s.KeepsMarks u :=
  State.KeepsMarks.trans (.of_same h') h

/-- A change of the device state alone, or of the level of PORT_READY (R114). -/
theorem keepsMarks_device (s : State) (d : DeviceState) (ready : Bool) :
    s.KeepsMarks { s with power := { s.power with device := d, portReady := ready } } := ⟨id, id, id, id⟩

/-- The soft reset is armed (R160). -/
theorem keepsMarks_arm (s : State) (hold : Bool) :
    s.KeepsMarks { s with power := { s.power with hold := hold, resetArmed := true } } := ⟨id, id, id, fun _ => rfl⟩

theorem keepsMarks_commandBody (s : State) (k : Byte) (a : Vector Word 4) : s.KeepsMarks (s.commandBody k a).state := by
  by_cases hstandby : k.toNat = 16
  · have hbody : s.commandBody k = s.cmdEnterStandby := by simp only [State.commandBody, hstandby]
    rw [hbody, State.cmdEnterStandby]
    split
    · exact keepsMarks_device s _ _
    · exact .of_same (.refl s)
  · by_cases harm : k.toNat = 17
    · have hbody : s.commandBody k = s.cmdArmSoftReset := by simp only [State.commandBody, harm]
      rw [hbody, State.cmdArmSoftReset]
      split
      · exact .of_same (.refl s)
      · exact keepsMarks_arm s _
    · exact .of_same (sameControl_commandBody s hstandby harm a)

theorem keepsMarks_hostCommand {c : Instr} (hc : c ∈ hostCommandSteps) {s t : State} (h : exec c s = .next t) :
    s.KeepsMarks t := by
  obtain ⟨p, k, hexec⟩ := exec_hostCommand_body hc s
  rw [hexec] at h
  refine .of_next h ?_
  rcases commandStep_cases s p (s.commandBody k) with hsame | ⟨k', a, -, -, hrun⟩
  · rw [hsame]; exact .of_same (.refl s)
  · rw [hrun]; exact (keepsMarks_commandBody s k a).then_same ⟨rfl, rfl, rfl⟩

/-- The state that the service of the backlog finds (R86). -/
theorem keepsMarks_beforeService {s u : State} (h : s.beforeService = some u) : s.KeepsMarks u := by
  unfold State.beforeService at h
  split at h
  case h_1 => split at h <;> cases h; exact .of_same (sameControl_epochDuties s)
  case h_3 => cases h; exact .of_same (sameControl_replayDecided s)
  case h_4 =>
    obtain ⟨e, -, rfl⟩ := Option.map_eq_some_iff.1 h
    exact (keepsMarks_commandBody s e.kind e.args).then_same ⟨rfl, rfl, rfl⟩
  case h_5 n hnext =>
    obtain ⟨it, rest, -, -, hline⟩ := servesItem_of_nextStep hnext
    cases h
    unfold State.newItemDecided
    rw [hline]
    exact .of_same (sameControl_newItem s n it rest)
  all_goals cases h

theorem keepsMarks_backlogService {s t : State} (h : execBacklogService s = .next t) : s.KeepsMarks t := by
  rcases execBacklogService_cases s with hsame | ⟨u, hu, -, hserve⟩
  · rw [hsame] at h; exact .of_next h (.of_same (.refl s))
  · rw [hserve] at h; exact .of_next h ((keepsMarks_beforeService hu).then_same ⟨rfl, rfl, rfl⟩)

/-- The wake changes the device state alone (R164). -/
theorem keepsMarks_wake (s : State) : s.KeepsMarks s.wake := by
  rw [State.wake_eq, Power.woken]
  split
  · exact keepsMarks_device s _ _
  · exact .of_same (.refl s)

theorem keepsMarks_takeIn (s : State) (n : AgentId) (m : Message) : s.KeepsMarks (s.takeIn n m) := by
  unfold State.takeIn
  split
  · exact (keepsMarks_wake _).after_same ⟨rfl, rfl, rfl⟩
  · exact .of_same (.refl s)

/-- A response can set StrayResponse (R113). -/
theorem keepsMarks_downResponse (s : State) (g : GatewayTag) (st : MemStatus) (d : List Byte) :
    s.KeepsMarks (s.downResponse g st d) := by
  rcases downResponse_cases s g st d with h | ⟨r, -, -, ⟨-, h⟩ | ⟨-, h⟩⟩ <;> rw [h]
  · exact ⟨fun _ => rfl, id, id, id⟩
  · exact .of_same ⟨rfl, rfl, rfl⟩
  · exact .of_same ((sameControl_relay s r st d).trans ⟨rfl, rfl, rfl⟩)

theorem keepsMarks_issueCommand (s : State) (v : Word) : s.KeepsMarks (s.issueCommand v) := by
  unfold State.issueCommand
  split <;> exact (keepsMarks_wake _).after_same ⟨rfl, rfl, rfl⟩

/-- The write of DeviceConfig can restart the divider of the epoch generator (R149). -/
theorem keepsMarks_writeDeviceConfig (s : State) (v : Word) : s.KeepsMarks (s.writeDeviceConfig v) := by
  unfold State.writeDeviceConfig
  dsimp only
  split <;> exact ⟨id, id, id, id⟩

/-- The read of EpochStatus sets Armed (R151). -/
theorem keepsMarks_readEpochStatus (s : State) (b : Bool) : s.KeepsMarks (s.readEpochStatus b) :=
  ⟨id, id, fun _ => rfl, id⟩

theorem keepsMarks_writeEffect (s : State) (o : BitVec 8) (v : Word) : s.KeepsMarks (s.writeEffect o v) := by
  unfold State.writeEffect
  split
  case h_1 => exact keepsMarks_writeDeviceConfig s v
  case h_6 => exact keepsMarks_issueCommand s v
  case h_9 => exact .of_same (sameControl_missPop s)
  all_goals exact .of_same ⟨rfl, rfl, rfl⟩

theorem keepsMarks_hostRead (s : State) (o : BitVec 8) : s.KeepsMarks (s.hostRead o) := by
  unfold State.hostRead
  split
  case h_1 => exact keepsMarks_readEpochStatus s _
  all_goals exact .of_same ⟨rfl, rfl, rfl⟩

theorem keepsMarks_hostAccess (s : State) (a : HostAccess) : s.KeepsMarks (s.hostAccess a) := by
  unfold State.hostAccess
  split
  · split
    · exact (keepsMarks_writeEffect s _ _).then_same ⟨rfl, rfl, rfl⟩
    · exact keepsMarks_hostRead ..
  · exact .of_same ⟨rfl, rfl, rfl⟩

/-! ### Every row -/

/-- Every row but power-on reset and the epoch step keeps the marks. -/
theorem exec_keepsMarks {c : Instr} {s t : State} (h : exec c s = .next t) (hpower : ∀ pins, c ≠ .powerOnReset pins)
    (hepoch : c ≠ .epochStep) : s.KeepsMarks t := by
  cases c with
  | powerOnReset pins => exact absurd rfl (hpower pins)
  | epochStep => exact absurd rfl hepoch
  | insertAddress | insertRights | purgeEntry | purgeSegment | purgeAll | readEntry | probe | bindAgent | unbindAgent
  | writeContext | readContext | suspendContext | resumeContext | abortParked | clearReservation | enterStandby
  | armSoftReset | badCommand => exact keepsMarks_hostCommand (by decide) h
  | admission n m =>
    have hadm : (if m.linkOk then .next (s.takeIn n m) else .fault .linkBroken : Answer) = .next t := h
    split at hadm
    · exact .of_next hadm (keepsMarks_takeIn s n m)
    · cases hadm
  | agrstNAssertion n => exact .of_next h (.of_same (sameControl_assertPortReset s n))
  | portResetStep =>
    refine .of_next h (.of_same ?_)
    split <;> exact ⟨rfl, rfl, rfl⟩
  | newAgentItemStep | signal | tagInUse => exact .of_next h (.of_same (sameControl_takeNewItem s _))
  | replayStep =>
    refine .of_next h (.of_same ?_)
    split
    · exact (sameControl_replayDecided s).serve
    · exact .refl s
  | downstreamRequest => exact .of_next h (.of_same (sameControl_sendDownstream s))
  | downstreamResponse g st d => exact .of_next h (keepsMarks_downResponse s g st d)
  | missTimeout | reservationExpiry =>
    refine .of_next h (.of_same ?_)
    split
    · rename_i hcond
      exact sameControl_of_ageingStepPending (Bool.and_eq_true_iff.1 hcond).1
    · exact .refl s
  | backlogService => exact keepsMarks_backlogService h
  | cmdIssue v => exact .of_next h ((keepsMarks_issueCommand s v).then_same ⟨rfl, rfl, rfl⟩)
  | missPop v => exact .of_next h (.of_same ((sameControl_missPop s).trans ⟨rfl, rfl, rfl⟩))
  | epochStatusRead b => exact .of_next h (keepsMarks_readEpochStatus s b)
  | deviceConfig v => exact .of_next h ((keepsMarks_writeDeviceConfig s v).then_same ⟨rfl, rfl, rfl⟩)
  | timerTick | intervalMatch | timerOverflow => exact .of_next h (.of_same (sameControl_tickWhere s _))
  | srstNHigh =>
    refine .of_next h ?_
    split
    · exact keepsMarks_arm s _
    · exact .of_same (.refl s)
  | hostAccessError a => exact .of_next h (keepsMarks_hostAccess s a)
  | registerWrite o v => exact .of_next h (keepsMarks_hostAccess s _)
  | epochEvent | srstNLow | portReady => exact .of_next h ⟨id, id, id, id⟩
  | agrstNRelease | resultPop | faultPop | cmdDroppedClear | eventRaise | eventClear | eventPermit | deliverEnable | claim
  | complete | serviceStatusClear | extEventConfig | evPinChange | filteredLevelChange | signalCodeRead | timerControl
  | resetAction | timerCompare | timerStatusClear => exact .of_next h (.of_same ⟨rfl, rfl, rfl⟩)

/-! ### The soft reset -/

theorem Power.afterSoftReset_marks (p : Power) :
    p.afterSoftReset.softResetSeen = true ∧ p.afterSoftReset.resetArmed = false := by
  unfold Power.afterSoftReset
  dsimp only
  split <;> exact ⟨rfl, rfl⟩

/-- An epoch step that finds the soft reset due performs it (R161, R162). -/
theorem softResets_of_due {s : State} {mark : Bool} (he : s.dp.epoch = some mark) (hdue : s.softResetDue mark = true) :
    s.SoftResets .epochStep s.dropEpoch.softReset := by
  obtain ⟨harmed, rfl, hfree⟩ := (softResetDue_iff s mark).1 hdue
  obtain ⟨hseen, hcleared⟩ := s.power.afterSoftReset_marks
  exact ⟨rfl, he, harmed, hfree, hcleared, hseen⟩

theorem exec_epochStep (s : State) : exec .epochStep s = .next s.takeEpochStep := rfl

/-- A row other than power-on reset keeps the marks, or is the epoch step that performs the soft reset (R162). -/
theorem exec_marks_cases {c : Instr} {s t : State} (h : exec c s = .next t) (hpower : ∀ pins, c ≠ .powerOnReset pins) :
    s.KeepsMarks t ∨ s.SoftResets c t ∧ t = s.dropEpoch.softReset := by
  by_cases hepoch : c = .epochStep
  · subst hepoch
    rw [exec_epochStep, Host.Outcome.next.injEq] at h
    subst h
    rcases takeEpochStep_cases s with hsame | ⟨mark, he, hdue, hreset⟩
    · exact .inl (.of_same hsame)
    · rw [hreset]; exact .inr ⟨softResets_of_due he hdue, rfl⟩
  · exact .inl (exec_keepsMarks h hpower hepoch)

/-- Settles O59: a row keeps the marks, or it is the soft reset, which clears ResetArmed and sets Armed and SoftResetSeen. -/
theorem resetMarksClearOnlyByResets : Obligations.ResetMarksClearOnlyByResets := by
  refine ⟨fun pins s t h => ?_, fun s t h he harmed hfree => ?_, fun c s t h hpower => ?_⟩
  · cases h
    exact ⟨rfl, rfl, rfl, rfl⟩
  · have hdue : s.softResetDue false = true := (softResetDue_iff s false).2 ⟨harmed, rfl, hfree⟩
    rw [exec_epochStep, takeEpochStep_of_due he hdue] at h
    cases h
    exact softResets_of_due he hdue
  · rcases exec_marks_cases h hpower with hkeeps | ⟨hreset, rfl⟩
    · exact ⟨hkeeps.stray, hkeeps.softResetSeen, hkeeps.armed, .inl ∘ hkeeps.resetArmed⟩
    · obtain ⟨hseen, -⟩ := s.power.afterSoftReset_marks
      exact ⟨id, fun _ => hseen, fun _ => rfl, fun _ => .inr hreset⟩

end Sys2Proof.Machine
end

section
/-! The writes of DeviceConfig, of CmdIssue and CmdStatus, and of the two pops, each as a whole state, and the answer to a kind
that names no command (R118, R122, R124, R127 to R129, R131, R149). -/

namespace Sys2Proof.Machine

/-! ### DeviceConfig -/

/-- A field of a word, read by division. -/
theorem extractLsb'_eq_ofNat {w : Nat} (v : BitVec w) (lo n : Nat) :
    v.extractLsb' lo n = BitVec.ofNat n (v.toNat / 2 ^ lo % 2 ^ n) := by
  apply BitVec.eq_of_toNat_eq
  rw [BitVec.extractLsb'_toNat, BitVec.toNat_ofNat, Nat.mod_mod, Nat.shiftRight_eq_div_pow]

/-- The period select that a word writes is the current one (R149). -/
theorem periodSelect_written_iff (v : Word) (sel : BitVec 2) : v.extractLsb' 0 2 = sel ↔ v.toNat % 4 = sel.toNat := by
  rw [← BitVec.toNat_inj, BitVec.extractLsb'_toNat]; rfl

/-- A write of DeviceConfig: the whole state after it (R124, R149). -/
theorem writeDeviceConfig_eq (s : State) (v : Word) :
    s.writeDeviceConfig v = { s with
      config := { periodSelect := BitVec.ofNat 2 (v.toNat % 4), missTimeout := BitVec.ofNat 4 (v.toNat / 256 % 16),
                  lifetime := BitVec.ofNat 4 (v.toNat / 65536 % 16) }
      epoch := { s.epoch with
        divider := if v.toNat % 4 = s.config.periodSelect.toNat then s.epoch.divider else 0 } } := by
  have hsel : v.extractLsb' 0 2 = BitVec.ofNat 2 (v.toNat % 4) :=
    (extractLsb'_eq_ofNat v 0 2).trans (congrArg (fun n => BitVec.ofNat 2 (n % 4)) (Nat.div_one _))
  have hmiss : v.extractLsb' 8 4 = BitVec.ofNat 4 (v.toNat / 256 % 16) := extractLsb'_eq_ofNat v 8 4
  have hlife : v.extractLsb' 16 4 = BitVec.ofNat 4 (v.toNat / 65536 % 16) := extractLsb'_eq_ofNat v 16 4
  unfold State.writeDeviceConfig
  simp only [periodSelect_written_iff, hmiss, hlife]
  rw [hsel]
  split <;> rfl

theorem exec_deviceConfig (v : Word) (s : State) : exec (.deviceConfig v) s = .next (s.writeDeviceConfig v).ack := rfl

/-- Settles O44: the fields of the word, and the divider by whether the select changes. -/
theorem deviceConfigRestartsDivider : Obligations.DeviceConfigRestartsDivider := fun s v => by
  rw [exec_deviceConfig, writeDeviceConfig_eq]; rfl

/-! ### CmdIssue -/

/-- The kind that a word issues: its low byte (R127). -/
theorem setWidth_byte (v : Word) : v.setWidth 8 = BitVec.ofNat 8 (v.toNat % 256) := by
  apply BitVec.eq_of_toNat_eq
  rw [BitVec.toNat_setWidth, BitVec.toNat_ofNat, Nat.mod_mod]

/-- A write of CmdIssue captures a command where the command FIFO has room (R127). -/
theorem issueCommand_of_room {s : State} (h : s.cmd.fifo.length < 4) (v : Word) :
    s.issueCommand v = { s with
      cmd := { s.cmd with fifo := s.cmd.fifo ++ [{ kind := BitVec.ofNat 8 (v.toNat % 256), args := s.cmd.args }] }
      power := s.power.woken } := by
  rw [State.issueCommand, if_pos h, State.wake_eq, setWidth_byte]

/-- A write of CmdIssue is dropped where the command FIFO is full (R127). -/
theorem issueCommand_of_full {s : State} (h : 4 ≤ s.cmd.fifo.length) (v : Word) :
    s.issueCommand v = { s with
      cmd := { s.cmd with dropped := true }
      ev := { s.ev with requests := s.ev.requests ||| 0x001 }
      power := s.power.woken } := by
  rw [State.issueCommand, if_neg (Nat.not_lt.2 h), State.wake_eq]; rfl

theorem exec_cmdIssue (v : Word) (s : State) : exec (.cmdIssue v) s = .next (s.issueCommand v).ack := rfl

/-! ### CmdStatus and the pops -/

theorem exec_cmdDroppedClear (v : Word) (setNow : Bool) (s : State) :
    exec (.cmdDroppedClear v setNow) s = .next (s.writeCmdStatus v setNow).ack := rfl

theorem popResult_of_cons {s : State} {r : ResultRecord} {rest : List ResultRecord} (h : s.cmd.results = r :: rest) :
    s.popResult = { s with cmd := { s.cmd with results := rest } } := by rw [State.popResult, h]; rfl

theorem popResult_of_nil {s : State} (h : s.cmd.results = []) : s.popResult = s := by
  rw [State.popResult, h, List.tail_nil, ← h]

theorem popFault_of_cons {s : State} {r : FaultRecord} {rest : List FaultRecord} (h : s.log.records = r :: rest) :
    s.popFault = { s with log := { s.log with records := rest } } := by rw [State.popFault, h]; rfl

theorem popFault_of_nil {s : State} (h : s.log.records = []) : s.popFault = s := by
  rw [State.popFault, h, List.tail_nil, ← h]

theorem exec_resultPop (v : Word) (s : State) : exec (.resultPop v) s = .next s.popResult.ack := rfl

theorem exec_faultPop (v : Word) (s : State) : exec (.faultPop v) s = .next s.popFault.ack := rfl

/-- Settles O36: CmdIssue by the room in the command FIFO, CmdStatus, and the pops by whether their queue is empty. -/
theorem commandAndPopWrites : Obligations.CommandAndPopWrites := by
  refine ⟨fun s v => ⟨fun hroom => ?_, fun hfull => ?_, fun setNow => ?_⟩,
    fun s v => ⟨fun r rest h => ?_, fun h => ?_, fun r rest h => ?_, fun h => ?_⟩⟩
  · rw [exec_cmdIssue, issueCommand_of_room hroom]; rfl
  · rw [exec_cmdIssue, issueCommand_of_full hfull]; rfl
  · rw [exec_cmdDroppedClear, State.writeCmdStatus, w1c_eq]; rfl
  · rw [exec_resultPop, popResult_of_cons h]; rfl
  · rw [exec_resultPop, popResult_of_nil h]; rfl
  · rw [exec_faultPop, popFault_of_cons h]; rfl
  · rw [exec_faultPop, popFault_of_nil h]; rfl

/-! ### Kinds and rows -/

theorem badKind_iff (k : Byte) : badKind k = true ↔ k = 0 ∨ 18 ≤ k.toNat := by
  rw [badKind, Bool.or_eq_true, decide_eq_true_eq, decide_eq_true_eq, Nat.lt_iff_add_one_le]

theorem exec_badCommand (s : State) :
    exec .badCommand s = .next (s.commandStep badKind fun _ => s.fails .badCommand) := rfl

/-- A host command step at a ready head of another kind changes nothing. -/
theorem commandStep_of_other_kind {s : State} {k : Byte} {a : Vector Word 4} (h : s.CommandAtHead k a) {p : Byte → Bool}
    (hp : ¬ p k = true) (body : Vector Word 4 → CmdResult) : s.commandStep p body = s := by
  rw [commandStep_ready h, if_neg hp]

/-- Settles O35: BAD_COMMAND by whether the head's kind names a command, and the other rows at a head of another kind. -/
theorem badCommandIsAnswered : Obligations.BadCommandIsAnswered := by
  refine fun s k a hhead => ⟨fun hbad => ?_, fun j hj => ?_, fun hzero hlt => ?_⟩
  · rw [exec_badCommand, commandStep_ready hhead, if_pos ((badKind_iff k).2 hbad)]; rfl
  · have hrow : (BitVec.ofNat 8 (j.val + 1)).toNat = j.val + 1 := by rw [BitVec.toNat_ofNat]; omega
    rw [exec_commandRow s j hrow, commandStep_of_other_kind hhead]
    rintro hk
    exact hj (by rw [eq_of_beq hk, hrow])
  · have hkind : ¬ badKind k = true := fun h => ((badKind_iff k).1 h).elim hzero (Nat.not_le.2 hlt)
    rw [exec_badCommand, commandStep_of_other_kind hhead hkind]

end Sys2Proof.Machine
end

section
/-! A host access by its size, alignment and offset: refused, read or written (R121, R122, R124). -/

namespace Sys2Proof.Machine

/-! ### Which accesses are accepted -/

theorem accepted_iff (a : HostAccess) : accepted a = true ↔ a.size = .word ∧ a.offset.toNat % 4 = 0 := by
  rw [accepted, Bool.and_eq_true, decide_eq_true_eq, decide_eq_true_eq]

theorem not_accepted {a : HostAccess} (h : a.size ≠ .word ∨ a.offset.toNat % 4 ≠ 0) : ¬ accepted a = true := by
  rwa [accepted_iff, not_and_or]

/-- An access of another width or alignment is refused (R121). -/
theorem exec_hostAccessError_of_refused (s : State) {a : HostAccess} (h : a.size ≠ .word ∨ a.offset.toNat % 4 ≠ 0) :
    exec (.hostAccessError a) s = .next { s with out := s.out ++ [.accessError] } :=
  congrArg Host.Outcome.next (if_neg (not_accepted h))

/-- A word read at a multiple of 4 is performed (R121, R122). -/
theorem exec_read_of_aligned (s : State) {off : BitVec 8} (h : off.toNat % 4 = 0) (v : Word) :
    exec (.hostAccessError ⟨false, .word, off, v⟩) s = .next (s.hostRead off) :=
  congrArg Host.Outcome.next (if_pos ((accepted_iff _).2 ⟨rfl, h⟩))

/-- A word write is a host access (R121). -/
theorem exec_registerWrite (s : State) (off : BitVec 8) (v : Word) :
    exec (.registerWrite off v) s = exec (.hostAccessError ⟨true, .word, off, v⟩) s := rfl

/-- A word write at a multiple of 4 is performed and acknowledged (R121, R122). -/
theorem exec_write_of_aligned (s : State) {off : BitVec 8} (h : off.toNat % 4 = 0) (v : Word) :
    exec (.registerWrite off v) s = .next (s.writeEffect off v).ack :=
  congrArg Host.Outcome.next (if_pos ((accepted_iff _).2 ⟨rfl, h⟩))

/-- An offset by its number. -/
theorem offset_eq {off : BitVec 8} {n : Nat} (h : off.toNat = n) : off = BitVec.ofNat 8 n := by
  rw [← h, BitVec.ofNat_toNat, BitVec.setWidth_eq]

/-! ### Reads -/

/-- The offsets of the registers whose read has a side effect: EpochStatus, Claim and the SignalCode registers (R124). -/
def readEffectOffsets : List (BitVec 8) :=
  [0x0C#8, 0x74#8, 0x88#8, 0x8C#8, 0x90#8, 0x94#8, 0x98#8, 0x9C#8, 0xA0#8, 0xA4#8]

/-- A read elsewhere returns the register's value and changes nothing (R122). -/
theorem hostRead_of_plain (s : State) {off : BitVec 8} (h : off ∉ readEffectOffsets) :
    s.hostRead off = { s with out := s.out ++ [.readData off (s.readValue off)] } := by
  unfold State.hostRead
  split
  case h_11 => rfl
  all_goals
    rename_i hoff
    rw [offset_eq hoff] at h
    exact absurd (by decide) h

/-- The read of a SignalCode register, by its offset (R124, R146). -/
theorem hostRead_signalCode (s : State) (n : AgentId) :
    s.hostRead (BitVec.ofNat 8 (0x88 + 4 * n.val)) = s.readSignalCode n := by
  fin_cases n <;> rfl

theorem signalCode_aligned (n : AgentId) : (BitVec.ofNat 8 (0x88 + 4 * n.val)).toNat % 4 = 0 := by
  rw [BitVec.toNat_ofNat]; omega

/-! ### Writes -/

/-- The offsets of the registers that a write acts on (R124). -/
def writeEffectOffsets : List (BitVec 8) :=
  [0x08#8, 0x10#8, 0x14#8, 0x18#8, 0x1C#8, 0x20#8, 0x24#8, 0x34#8, 0x40#8, 0x58#8, 0x60#8, 0x64#8, 0x6C#8, 0x70#8, 0x78#8,
   0x7C#8, 0x80#8, 0xA8#8, 0xAC#8, 0xB4#8]

/-- A write elsewhere is ignored (R122). -/
theorem writeEffect_of_ignored (s : State) {off : BitVec 8} (h : off ∉ writeEffectOffsets) (v : Word) :
    s.writeEffect off v = s := by
  unfold State.writeEffect
  split
  case h_21 => rfl
  all_goals
    rename_i hoff
    rw [offset_eq hoff] at h
    exact absurd (by decide) h

/-- The write of a CmdArg register, by its offset (R124, R127). -/
theorem writeEffect_cmdArg (s : State) (i : Fin 4) (v : Word) :
    s.writeEffect (BitVec.ofNat 8 (0x10 + 4 * i.val)) v = s.writeArg i v := by
  fin_cases i <;> rfl

theorem cmdArg_aligned (i : Fin 4) : (BitVec.ofNat 8 (0x10 + 4 * i.val)).toNat % 4 = 0 := by
  rw [BitVec.toNat_ofNat]; omega

/-- Settles O49: refused accesses, then the reads and the writes by their offset. -/
theorem hostAccessesFollowTheMap : Obligations.HostAccessesFollowTheMap := by
  refine ⟨fun s off v => ⟨fun w size h => exec_hostAccessError_of_refused s h, fun haligned hplain => ?_,
      exec_read_of_aligned s rfl v, exec_read_of_aligned s rfl v, fun n => ?_, (exec_registerWrite s off v).symm⟩,
    fun s off v => ⟨fun i => ?_, fun p hp => ?_, fun haligned hignored => ?_, fun hunaligned => ?_⟩⟩
  · rw [exec_read_of_aligned s haligned, hostRead_of_plain s hplain]
  · rw [exec_read_of_aligned s (signalCode_aligned n), hostRead_signalCode]; rfl
  · rw [exec_write_of_aligned s (cmdArg_aligned i), writeEffect_cmdArg]; rfl
  · fin_cases hp
    all_goals
      dsimp only
      exact exec_write_of_aligned s rfl v
  · rw [exec_write_of_aligned s haligned, writeEffect_of_ignored s hignored]; rfl
  · exact exec_hostAccessError_of_refused s (.inr hunaligned)

end Sys2Proof.Machine
end

section
/-! What the registers read, as numbers in the layouts of the register map: a word packed of fields, then each register (R115,
R116, R122, R124, R125, R130, R141). -/

namespace Sys2Proof.Machine

/-! ### Words packed of fields -/

/-- The word `w` is the number `n`, whose 1 bits all lie in bits `lo` to `hi - 1`. -/
structure Packed (w : Word) (n lo hi : Nat) : Prop where
  toNat_eq : w.toNat = n
  dvd : 2 ^ lo ∣ n
  lt : n < 2 ^ hi
  order : lo ≤ hi

/-- A field of `k` bits. -/
theorem packed_field {m lo k : Nat} (hm : m < 2 ^ k) (hk : lo + k ≤ 32) : Packed (field m lo) (m * 2 ^ lo) lo (lo + k) := by
  have hlt : m * 2 ^ lo < 2 ^ (lo + k) := by
    rw [Nat.add_comm, Nat.pow_add]
    exact Nat.mul_lt_mul_of_pos_right hm (Nat.two_pow_pos lo)
  exact ⟨toNat_field m lo (hlt.trans_le (Nat.pow_le_pow_right two_pos hk)), Nat.dvd_mul_left .., hlt, Nat.le_add_right ..⟩

/-- A flag. -/
theorem packed_bit (b : Bool) {lo : Nat} (h : lo + 1 ≤ 32) :
    Packed (bit b lo) (if b then 2 ^ lo else 0) lo (lo + 1) := by
  have hvalue : b.toNat * 2 ^ lo = if b then 2 ^ lo else 0 := by cases b <;> simp
  rw [← hvalue]
  exact packed_field b.toNat_lt h

/-- Two words, one packed above the other. -/
theorem Packed.or {w v : Word} {n m lo mid mid' hi : Nat} (hw : Packed w n lo mid) (hv : Packed v m mid' hi)
    (hmid : mid ≤ mid') : Packed (w ||| v) (n + m) lo hi := by
  have hn : n < 2 ^ mid' := hw.lt.trans_le (Nat.pow_le_pow_right two_pos hmid)
  have hlo : lo ≤ mid' := hw.order.trans hmid
  obtain ⟨d, rfl⟩ := Nat.exists_eq_add_of_le hv.order
  obtain ⟨q, rfl⟩ := hv.dvd
  have hlt : n + 2 ^ mid' * q < 2 ^ (mid' + d) := by
    have hq := hv.lt
    rw [Nat.pow_add] at hq ⊢
    calc n + 2 ^ mid' * q < 2 ^ mid' * (q + 1) := by rw [Nat.mul_succ]; omega
      _ ≤ 2 ^ mid' * 2 ^ d := Nat.mul_le_mul_left _ (Nat.lt_of_mul_lt_mul_left hq)
  refine ⟨?_, Nat.dvd_add hw.dvd ((Nat.pow_dvd_pow 2 hlo).trans (Nat.dvd_mul_right ..)), hlt, hlo.trans hv.order⟩
  rw [BitVec.toNat_or, hw.toNat_eq, hv.toNat_eq, Nat.or_comm, ← Nat.two_pow_add_eq_or_of_lt hn, Nat.add_comm]

/-- A field of `k` bits in the lowest bits. -/
theorem Packed.low {m : Nat} (k : Nat) (hm : m < 2 ^ k) (hk : k ≤ 32) : Packed (field m 0) m 0 k := by
  have h := packed_field (lo := 0) hm (by rwa [Nat.zero_add])
  rwa [pow_zero, Nat.mul_one, Nat.zero_add] at h

section
variable {w : Word} {n m lo hi at' : Nat} {b : Bool}

/-- A field of `k` bits above those packed so far. -/
theorem Packed.above (hw : Packed w n lo hi) (k : Nat) (hm : m < 2 ^ k) (h : hi ≤ at' ∧ at' + k ≤ 32) :
    Packed (w ||| field m at') (n + m * 2 ^ at') lo (at' + k) := hw.or (packed_field hm h.2) h.1

/-- A flag above the bits packed so far. -/
theorem Packed.aboveFlag (hw : Packed w n lo hi) (h : hi ≤ at' ∧ at' + 1 ≤ 32) :
    Packed (w ||| bit b at') (n + if b then 2 ^ at' else 0) lo (at' + 1) := hw.or (packed_bit b h.2) h.1

/-- A field of `k` bits below those packed so far. -/
theorem Packed.below (hw : Packed w n lo hi) (k : Nat) (hm : m < 2 ^ k) (h : at' + k ≤ lo ∧ at' + k ≤ 32) :
    Packed (w ||| field m at') (n + m * 2 ^ at') at' hi := by
  rw [BitVec.or_comm, Nat.add_comm]
  exact (packed_field hm h.2).or hw h.1

/-- A flag below the bits packed so far. -/
theorem Packed.belowFlag (hw : Packed w n lo hi) (h : at' + 1 ≤ lo ∧ at' + 1 ≤ 32) :
    Packed (w ||| bit b at') (n + if b then 2 ^ at' else 0) at' hi := by
  rw [BitVec.or_comm, Nat.add_comm]
  exact (packed_bit b h.2).or hw h.1

/-- A field of `k` bits in the lowest bits, below those packed so far. -/
theorem Packed.lowest (hw : Packed w n lo hi) (k : Nat) (hm : m < 2 ^ k) (h : k ≤ lo ∧ k ≤ 32) :
    Packed (w ||| field m 0) (n + m) 0 hi := by
  rw [BitVec.or_comm, Nat.add_comm]
  exact (Packed.low k hm h.2).or hw h.1

end

/-! ### Numbers -/

theorem Status.code_eq (x : Status) : x.code = statusNumber x := by cases x <;> rfl

theorem RequestKind.code_eq (q : RequestKind) : q.code = requestNumber q := by
  cases q with
  | access k => cases k <;> rfl
  | signal => rfl

theorem Status.code_lt (x : Status) : x.code < 2 ^ 4 := by cases x <;> decide

theorem FaultKind.code_lt (f : FaultKind) : f.code < 2 ^ 4 := by cases f <;> decide

theorem AccessKind.code_lt (k : AccessKind) : k.code < 2 ^ 3 := by cases k <;> decide

theorem RequestKind.code_lt (q : RequestKind) : q.code < 2 ^ 3 := by
  cases q with
  | access k => exact AccessKind.code_lt k
  | signal => decide

theorem DeviceState.code_lt (d : DeviceState) : d.code < 2 ^ 2 := by cases d <;> decide

theorem PortState.code_lt (p : PortState) : p.code < 2 ^ 2 := by cases p <;> decide

theorem TimerClock.code_lt (c : TimerClock) : c.code < 2 ^ 2 := by cases c <;> decide

theorem levelRank_lt (l : Level) : levelRank l < 2 ^ 4 := by
  cases l with
  | none => decide
  | some x => cases x <;> decide

theorem wordOfMask_toNat (m : EventMask) : (wordOfMask m).toNat = m.toNat * 2 := by
  have hfield : wordOfMask m = field m.toNat 1 := by rw [wordOfMask, field, BitVec.ofNat_toNat]
  rw [hfield]
  exact (packed_field m.isLt (by decide)).toNat_eq

/-! ### Status and control registers -/

/-- DeviceStatus (R124). -/
theorem packed_deviceStatus {s : State} (hlost : s.miss.lost ≤ 255) :
    Packed s.deviceStatus
      (s.power.device.code + (if s.power.hold then 16 else 0) + (if s.power.resetArmed then 32 else 0) +
        (if s.power.softResetSeen then 64 else 0) + (if s.sys.stray then 128 else 0) + s.miss.lost * 256) 0 16 :=
  .above (.aboveFlag (.aboveFlag (.aboveFlag (.aboveFlag (.low 2 (DeviceState.code_lt _) (by decide)) (by decide)) (by decide))
    (by decide)) (by decide)) 8 (by omega) (by decide)

/-- DeviceConfig (R124). -/
theorem packed_deviceConfig (c : DevConfig) :
    Packed c.word (c.periodSelect.toNat + c.missTimeout.toNat * 256 + c.lifetime.toNat * 65536) 0 20 :=
  .above (.above (.low 2 c.periodSelect.isLt (by decide)) 4 c.missTimeout.isLt (by decide)) 4 c.lifetime.isLt (by decide)

/-- CmdStatus (R124). -/
theorem packed_cmdStatus {c : CmdBlock} (hfifo : c.fifo.length ≤ 4) (hresults : c.results.length ≤ 4) :
    Packed c.status (c.fifo.length + c.results.length * 16 + if c.dropped then 256 else 0) 0 9 :=
  .aboveFlag (.above (.low 4 (by omega) (by decide)) 4 (by omega) (by decide)) (by decide)

/-- MissStatus (R124). -/
theorem packed_missStatus {s : State} (hparked : s.miss.parked.length + s.dp.replay.length ≤ 16)
    (hmembers : s.miss.members.length ≤ 16) (hqueue : s.miss.queue.length ≤ 8) :
    Packed s.missStatus
      (s.miss.parked.length + s.dp.replay.length * 256 + s.miss.members.length * 65536 + s.miss.queue.length * 0x1000000 +
        if s.miss.latch.isSome then 0x80000000 else 0) 0 32 :=
  .aboveFlag (.above (.above (.above (.low 5 (by omega) (by decide)) 5 (by omega) (by decide)) 5 (by omega) (by decide))
    4 (by omega) (by decide)) (by decide)

/-- FaultStatus (R124). -/
theorem packed_faultStatus {l : FaultLog} (hrecords : l.records.length ≤ 16) (hlost : l.lost ≤ 255) :
    Packed l.status (l.records.length + l.lost * 256) 0 16 :=
  .above (.low 5 (by omega) (by decide)) 8 (by omega) (by decide)

/-- ServiceStatus (R125, R141). -/
theorem packed_serviceStatus {e : EventBlock} (hstack : e.stack.length ≤ 3) :
    Packed e.serviceStatus
      (levelRank e.level + e.stack.length * 16 + (if e.overflow then 256 else 0) + if e.underflow then 512 else 0) 0 10 :=
  .aboveFlag (.aboveFlag (.above (.low 4 (levelRank_lt _) (by decide)) 2 (by omega) (by decide)) (by decide)) (by decide)

/-- ExtEventConfig (R125). -/
theorem packed_extConfig (e : EventBlock) :
    Packed e.extConfig
      ((if decide (e.eva.polarity = .falling) then 1 else 0) + (if decide (e.evb.polarity = .falling) then 2 else 0) +
        (if e.eva.filtered then 256 else 0) + if e.evb.filtered then 512 else 0) 0 10 :=
  .aboveFlag (.aboveFlag (.aboveFlag (packed_bit _ (by decide)) (by decide)) (by decide)) (by decide)

/-- TimerControl (R125). -/
theorem packed_timerControl (t : Timer) :
    Packed t.control
      (t.clock.code + (if t.run then 16 else 0) + if decide (t.mode = .freeRun) then 32 else 0) 0 6 :=
  .aboveFlag (.aboveFlag (.low 2 (TimerClock.code_lt _) (by decide)) (by decide)) (by decide)

/-- PortStatus (R124). -/
theorem packed_portStatus {s : State} {n : AgentId} (hline : s.ports[n].line.length ≤ 4) (hflush : s.ports[n].flush ≤ 4) :
    Packed (s.portStatus n)
      ((s.portState n).code + s.ports[n].line.length * 16 + s.ports[n].tags.toNat * 256 + s.ports[n].flush * 4096) 0 15 :=
  .above (.above (.above (.low 2 (PortState.code_lt _) (by decide)) 3 (by omega) (by decide)) 4 s.ports[n].tags.isLt
    (by decide)) 3 (by omega) (by decide)

/-! ### Registers with a bit for each agent or gateway tag -/

/-- A bit of a word gathered from one word for each member of a list. -/
theorem getLsbD_foldl_or {α : Type} (f : α → Word) (l : List α) (w : Word) (i : Nat) :
    (l.foldl (fun w a => w ||| f a) w).getLsbD i = (w.getLsbD i || l.any fun a => (f a).getLsbD i) := by
  induction l generalizing w with
  | nil => simp
  | cons a l ih => rw [List.foldl_cons, ih, BitVec.getLsbD_or, List.any_cons, Bool.or_assoc]

theorem getLsbD_gathered {α : Type} (f : α → Word) (l : List α) (i : Nat) :
    (l.foldl (fun w a => w ||| f a) 0).getLsbD i = true ↔ ∃ a ∈ l, (f a).getLsbD i = true := by
  have hzero : (0 : Word).getLsbD i = false := BitVec.getLsbD_zero
  rw [getLsbD_foldl_or, hzero, Bool.false_or, List.any_eq_true]

/-- A bit of SignalPending: one for each agent whose mailbox is pending (R146). -/
theorem signalPending_getLsbD (e : EventBlock) (i : Nat) :
    e.signalPending.getLsbD i = true ↔ ∃ n : AgentId, e.mail[n].pending = true ∧ i = n.val := by
  rw [EventBlock.signalPending, getLsbD_gathered]
  refine exists_congr fun n => ?_
  rw [bit_getLsbD _ _ _ (by omega), Bool.and_eq_true, decide_eq_true_eq]
  exact and_iff_right (List.mem_finRange n)

theorem signalPending_agent (e : EventBlock) (n : AgentId) : e.signalPending.getLsbD n.val = e.mail[n].pending := by
  rw [Bool.eq_iff_iff, signalPending_getLsbD]
  refine ⟨fun ⟨k, hpending, hk⟩ => ?_, fun hpending => ⟨n, hpending, rfl⟩⟩
  rwa [Fin.ext hk]

theorem signalPending_above (e : EventBlock) {i : Nat} (h : 8 ≤ i) : e.signalPending.getLsbD i = false := by
  rw [Bool.eq_false_iff, ne_eq, signalPending_getLsbD]
  rintro ⟨n, -, rfl⟩
  exact absurd n.isLt (Nat.not_lt.2 h)

/-- The bits of DownstreamStatus for a gateway tag whose record is `o` (R124). -/
def downstreamBits (g : GatewayTag) (o : Option OutRecord) : Word :=
  bit o.isSome g.val ||| bit (o.any (·.orphaned)) (16 + g.val)

theorem sysStatus_eq (y : SysPort) :
    y.status = (List.finRange 16).foldl (fun w g => w ||| downstreamBits g y.table[g]) 0 := by
  refine List.foldl_ext _ _ _ fun w g _ => ?_
  rw [downstreamBits]
  cases y.table[g] with
  | none => simp [Machine.bit, Machine.field]
  | some r => exact BitVec.or_assoc ..

/-- A bit of DownstreamStatus: held gateway tags below, those of orphaned records above (R124). -/
theorem sysStatus_getLsbD (y : SysPort) (i : Nat) :
    y.status.getLsbD i = true ↔ ∃ g : GatewayTag,
      (y.table[g]).isSome = true ∧ i = g.val ∨ (y.table[g]).any (·.orphaned) = true ∧ i = 16 + g.val := by
  rw [sysStatus_eq, getLsbD_gathered]
  refine exists_congr fun g => ?_
  rw [downstreamBits, BitVec.getLsbD_or, bit_getLsbD _ _ _ (by omega), bit_getLsbD _ _ _ (by omega)]
  simp only [List.mem_finRange, true_and, Bool.or_eq_true, Bool.and_eq_true, decide_eq_true_eq]

theorem sysStatus_held (y : SysPort) (g : GatewayTag) : y.status.getLsbD g.val = (y.table[g]).isSome := by
  rw [Bool.eq_iff_iff, sysStatus_getLsbD]
  refine ⟨?_, fun h => ⟨g, .inl ⟨h, rfl⟩⟩⟩
  rintro ⟨k, ⟨hheld, hk⟩ | ⟨-, hk⟩⟩
  · rwa [Fin.ext hk]
  · exact absurd g.isLt (by omega)

theorem sysStatus_orphaned (y : SysPort) (g : GatewayTag) :
    y.status.getLsbD (16 + g.val) = (y.table[g]).any (·.orphaned) := by
  rw [Bool.eq_iff_iff, sysStatus_getLsbD]
  refine ⟨?_, fun h => ⟨g, .inr ⟨h, rfl⟩⟩⟩
  rintro ⟨k, ⟨-, hk⟩ | ⟨horphaned, hk⟩⟩
  · exact absurd k.isLt (by omega)
  · rwa [Fin.ext (Nat.add_left_cancel hk)]

/-! ### The heads of the queues -/

/-- ResultHead0 (R124). -/
theorem packed_resultHead {c : CmdBlock} {r : ResultRecord} {rest : List ResultRecord} (h : c.results = r :: rest) :
    Packed (c.head 0) (0x80000000 + r.seq.toNat * 65536 + r.kind.toNat * 256 + r.status.code) 0 32 := by
  rw [CmdBlock.head, h]
  exact .lowest (.below (.below (packed_bit true (by decide)) 8 r.seq.isLt (by decide)) 8 r.kind.isLt (by decide))
    4 (Status.code_lt _) (by decide)

/-- ResultHead1 and ResultHead2 (R124, R129). -/
theorem resultData_of_cons {c : CmdBlock} {r : ResultRecord} {rest : List ResultRecord} (h : c.results = r :: rest) :
    c.head 1 = r.data0 ∧ c.head 2 = r.data1 := by
  unfold CmdBlock.head
  rw [h]
  exact ⟨rfl, rfl⟩

/-- FaultHead0 (R116). -/
theorem packed_faultHead {l : FaultLog} {r : FaultRecord} {rest : List FaultRecord} (h : l.records = r :: rest) :
    Packed (l.head 0) (0x80000000 + r.seq.toNat * 65536 + r.kind.code) 0 32 := by
  rw [FaultLog.head, h]
  exact .lowest (.below (packed_bit true (by decide)) 8 r.seq.isLt (by decide)) 4 (FaultKind.code_lt _) (by decide)

/-- What the context of a fault record adds to FaultHead1: its number and the mark that there is one (R116). -/
def contextNumber : Option ContextId → Nat
  | none => 0
  | some c => c.val * 65536 + 0x8000

/-- FaultHead1 (R116). -/
theorem packed_faultOrigin {l : FaultLog} {r : FaultRecord} {rest : List FaultRecord} (h : l.records = r :: rest) :
    Packed (l.head 1) (contextNumber r.ctx + r.req.code * 256 + r.tag.val * 16 + r.agent.val) 0 20 := by
  rw [FaultLog.head, h]
  refine .lowest (.below (.below (lo := 15) ?_ 3 (RequestKind.code_lt _) (by decide)) 2 r.tag.isLt (by decide))
    3 r.agent.isLt (by decide)
  cases r.ctx with
  | none => exact ⟨rfl, Nat.dvd_zero _, by decide, by decide⟩
  | some c => exact .belowFlag (b := true) (packed_field (k := 4) c.isLt (by decide)) (by decide)

/-- FaultHead2 and FaultHead3 (R116). -/
theorem faultPlace_of_cons {l : FaultLog} {r : FaultRecord} {rest : List FaultRecord} (h : l.records = r :: rest) :
    l.head 2 = r.addr ∧ Packed (l.head 3) r.stamp.toNat 0 16 := by
  unfold FaultLog.head
  rw [h]
  exact ⟨rfl, .low 16 r.stamp.isLt (by decide)⟩

/-- MissPresented0 (R84, R124). -/
theorem packed_missPresented {m : MissBlock} {l : Latched} (h : m.latch = some l) :
    Packed (m.presented 0)
      (0x80000000 + (if l.resolved then 0x40000000 else 0) + (if l.report.notParked then 0x20000000 else 0) +
        l.report.agent.val * 0x1000000 + l.report.ctx.val * 0x100000 + l.report.kind.code * 65536 +
        l.report.key.seg.toNat) 0 32 := by
  rw [MissBlock.presented, h]
  exact .lowest (.below (.below (.below (.belowFlag (.belowFlag (packed_bit true (by decide)) (by decide)) (by decide))
    3 l.report.agent.isLt (by decide)) 4 l.report.ctx.isLt (by decide)) 3 (AccessKind.code_lt _) (by decide))
    16 l.report.key.seg.isLt (by decide)

/-- MissPresented1 (R84, R124). -/
theorem packed_missPresentedPage {m : MissBlock} {l : Latched} (h : m.latch = some l) :
    Packed (m.presented 1) l.report.key.vpn.toNat 0 18 := by
  rw [MissBlock.presented, h]
  exact .low 18 l.report.key.vpn.isLt (by decide)

/-! ### The map -/

theorem readValue_cmdArg (s : State) (i : Fin 4) : s.readValue (BitVec.ofNat 8 (0x10 + 4 * i.val)) = s.cmd.args[i] := by
  fin_cases i <;> rfl

theorem readValue_portStatus (s : State) (n : AgentId) :
    s.readValue (BitVec.ofNat 8 (0xB8 + 4 * n.val)) = s.portStatus n := by
  fin_cases n <;> rfl

theorem readValue_faultHead (s : State) (i : Fin 4) :
    s.readValue (BitVec.ofNat 8 (0x48 + 4 * i.val)) = s.log.head i := by
  fin_cases i <;> rfl

/-- The offsets past DownstreamStatus are unused and read 0 (R122). -/
theorem readValue_of_past_end (s : State) {off : BitVec 8} (h : 0xDC ≤ off.toNat) : s.readValue off = 0 := by
  unfold State.readValue
  split
  case h_49 => rfl
  all_goals
    rename_i hoff
    rw [hoff] at h
    exact absurd h (by decide)

theorem CmdBlock.head_of_nil {c : CmdBlock} (h : c.results = []) (i : Nat) : c.head i = 0 := by rw [CmdBlock.head, h]

theorem FaultLog.head_of_nil {l : FaultLog} (h : l.records = []) (i : Nat) : l.head i = 0 := by rw [FaultLog.head, h]

theorem MissBlock.presented_of_none {m : MissBlock} (h : m.latch = none) (i : Nat) : m.presented i = 0 := by
  rw [MissBlock.presented, h]

/-- Settles O50: each register by its layout, the offsets that read 0, then the heads of the queues. -/
theorem readRegistersShowState : Obligations.ReadRegistersShowState := by
  refine ⟨fun s hb => ?_, fun s off hoff => ?_, fun s => ?_⟩
  · obtain ⟨⟨hline, hparked, hqueue, hlost, hrecords, hlogLost, hfifo, hresults, hstack, -⟩, hflush, hmembers, -⟩ := hb
    refine ⟨rfl, (packed_deviceConfig s.config).toNat_eq, readValue_cmdArg s, ?missStatus, bit_zero _, ?extConfig,
      signalPending_agent s.ev, fun i => signalPending_above s.ev, ?timerControl, BitVec.toNat_setWidth_of_le (by decide),
      bit_zero _, ?deviceStatus, (packed_cmdStatus hfifo hresults).toNat_eq, (packed_faultStatus hrecords hlogLost).toNat_eq,
      wordOfMask_toNat _, wordOfMask_toNat _, ?serviceStatus, BitVec.toNat_setWidth_of_le (by decide), fun n => ?portStatus,
      fun g => ⟨sysStatus_held s.sys g, sysStatus_orphaned s.sys g⟩⟩
    case missStatus =>
      refine (packed_missStatus hparked hmembers hqueue).toNat_eq.trans ?_
      cases s.miss.latch <;> rfl
    case extConfig =>
      refine (packed_extConfig s.ev).toNat_eq.trans ?_
      simp only [decide_eq_true_eq]
    case timerControl =>
      refine (packed_timerControl s.timer).toNat_eq.trans ?_
      simp only [decide_eq_true_eq]
      cases s.timer.clock <;> rfl
    case deviceStatus =>
      refine (packed_deviceStatus hlost).toNat_eq.trans ?_
      cases s.power.device <;> rfl
    case serviceStatus =>
      refine (packed_serviceStatus hstack).toNat_eq.trans ?_
      cases s.ev.level with
      | none => rfl
      | some x => cases x <;> rfl
    case portStatus =>
      rw [readValue_portStatus, (packed_portStatus (hline n) (hflush n)).toNat_eq]
      cases s.portState n <;> rfl
  · rcases hoff with hoff | hpast
    · fin_cases hoff <;> rfl
    · exact readValue_of_past_end s hpast
  · refine ⟨fun h => ⟨CmdBlock.head_of_nil h 0, CmdBlock.head_of_nil h 1, CmdBlock.head_of_nil h 2⟩,
      fun r rest h => ⟨?result, resultData_of_cons h⟩, fun h i => ?noFault,
      fun r rest h => ⟨?fault, ?faultOrigin, (faultPlace_of_cons h).1, (faultPlace_of_cons h).2.toNat_eq⟩,
      fun h => ⟨MissBlock.presented_of_none h 0, MissBlock.presented_of_none h 1⟩,
      fun l h => ⟨?presented, (packed_missPresentedPage h).toNat_eq⟩⟩
    case result =>
      rw [← Status.code_eq]
      exact (packed_resultHead h).toNat_eq
    case noFault => rw [readValue_faultHead, FaultLog.head_of_nil h]
    case fault =>
      rw [← FaultKind.code_eq]
      exact (packed_faultHead h).toNat_eq
    case faultOrigin =>
      rw [← RequestKind.code_eq]
      refine (packed_faultOrigin h).toNat_eq.trans ?_
      cases r.ctx <;> rfl
    case presented =>
      rw [← RequestKind.code_eq]
      exact (packed_missPresented h).toNat_eq

end Sys2Proof.Machine
end

section
/-! Event delivery: the event flags that host writes set, Claim and Complete, the sticky flags, the signal mailboxes, the event
detectors, and the agent items that end in their own step (R10, R11, R133 to R146). -/

namespace Sys2Proof.Machine

/-! ### Event flags -/

/-- The ranks are 1 to 9 (R134). -/
theorem Source.rank_range (x : Source) : 1 ≤ x.rank ∧ x.rank ≤ 9 := by cases x <;> decide

/-- The flag of a source is the bit below its rank (R134). -/
theorem Source.bit_getLsbD (x : Source) (i : Nat) : x.bit.getLsbD i = decide (i = x.rank - 1) := by
  have hrank := x.rank_range
  have hbit : x.bit = BitVec.twoPow 9 (x.rank - 1) := (BitVec.twoPow_eq ..).symm
  rw [hbit, BitVec.getLsbD_twoPow, decide_eq_true (by omega : x.rank - 1 < 9), Bool.true_and]
  exact decide_eq_decide.2 eq_comm

/-- The mask without a source's flag. -/
theorem getLsbD_clear_bit (m : EventMask) (x : Source) {i : Nat} (h : i < 9) :
    (m &&& ~~~x.bit).getLsbD i = (m.getLsbD i && i != x.rank - 1) := by
  rw [BitVec.getLsbD_and, BitVec.getLsbD_not, decide_eq_true h, Bool.true_and, Source.bit_getLsbD]
  rfl

/-- A write of EventRaise sets the flags written as 1 (R135). -/
theorem writeRaise_getLsbD (e : EventBlock) (v : Word) {i : Nat} (h : i < 9) :
    (e.writeRaise v).requests.getLsbD i = (e.requests.getLsbD i || v.getLsbD (i + 1)) := by
  rw [EventBlock.writeRaise, BitVec.getLsbD_or, maskOfWord_getLsbD v i h]

/-- A write of EventClear clears the flags written as 1, but for those raised at the same moment (R135). -/
theorem writeClear_getLsbD (e : EventBlock) (v : Word) (setNow : EventMask) {i : Nat} (h : i < 9) :
    (e.writeClear v setNow).requests.getLsbD i =
      if setNow.getLsbD i then true else if v.getLsbD (i + 1) then false else e.requests.getLsbD i := by
  rw [EventBlock.writeClear, BitVec.getLsbD_or, BitVec.getLsbD_and, BitVec.getLsbD_not, decide_eq_true h, Bool.true_and,
    maskOfWord_getLsbD v i h]
  exact w1c_eq ..

/-- Some source is the highest eligible one exactly where some source is eligible (R136). -/
theorem highest_isSome_iff (e : EventBlock) : e.highest.isSome = true ↔ ∃ x, e.Eligible x := by
  rw [EventBlock.highest, List.find?_isSome]
  exact exists_congr fun x => (and_iff_right x.mem_all).trans (eligible_source_iff e x)

/-- HIRQ is asserted while DeliverEnable is set and a source is eligible (R136). -/
theorem hirq_iff (s : State) : s.hirq = true ↔ s.ev.deliver = true ∧ ∃ x : Source, s.ev.Eligible x := by
  rw [State.hirq, EventBlock.hirq, Bool.and_eq_true, highest_isSome_iff]

theorem exec_eventRaise (v : Word) (s : State) : exec (.eventRaise v) s = .next { s with ev := s.ev.writeRaise v }.ack := rfl

theorem exec_eventClear (v : Word) (setNow : EventMask) (s : State) :
    exec (.eventClear v setNow) s = .next { s with ev := s.ev.writeClear v setNow }.ack := rfl

theorem exec_eventPermit (v : Word) (s : State) :
    exec (.eventPermit v) s = .next { s with ev := s.ev.writePermit v }.ack := rfl

theorem exec_deliverEnable (v : Word) (s : State) :
    exec (.deliverEnable v) s = .next { s with ev := s.ev.writeControl v }.ack := rfl

/-- Settles O39: the flags of each written mask, and HIRQ by eligibility. -/
theorem eventRegistersWriteTheirFlags : Obligations.EventRegistersWriteTheirFlags := fun s v =>
  ⟨⟨_, fun _ hi => writeRaise_getLsbD s.ev v hi, exec_eventRaise v s⟩,
    fun setNow => ⟨_, fun _ hi => writeClear_getLsbD s.ev v setNow hi, exec_eventClear v setNow s⟩,
    ⟨_, fun i hi => maskOfWord_getLsbD v i hi, exec_eventPermit v s⟩, exec_deliverEnable v s, hirq_iff s⟩

/-! ### Claim and Complete -/

/-- A read of Claim finds nothing to deliver (R137). -/
theorem claim_of_nothing {e : EventBlock} (h : e.deliver = false ∨ ∀ x, ¬ e.Eligible x) : e.claim = (e, 0) := by
  unfold EventBlock.claim
  rcases h with hoff | hnone
  · rw [hoff]; rfl
  · have hhighest : e.highest = none := by
      rw [← Option.not_isSome_iff_eq_none, highest_isSome_iff, not_exists]
      exact hnone
    rw [hhighest, ite_self]

/-- A read of Claim takes the eligible source of smallest rank into service (R137). -/
theorem claim_of_eligible {e : EventBlock} {x : Source} (hdeliver : e.deliver = true) (hx : e.Eligible x)
    (hmin : ∀ y, e.Eligible y → x.rank ≤ y.rank) : e.claim = (e.serve x, x.rank) := by
  rw [EventBlock.claim, if_pos hdeliver, highest_eq_some e x hx hmin]

/-- A source is taken into service with room on the stack (R137). -/
theorem serve_of_room {e : EventBlock} (h : e.stack.length < 3) (x : Source) :
    e.serve x = { e with requests := e.requests &&& ~~~x.bit, deliver := false, level := some x,
                         stack := ⟨e.level, e.permits⟩ :: e.stack } := by
  rw [EventBlock.serve, EventBlock.push, if_pos h]

/-- A fourth frame discards the oldest, sets StackOverflow and raises ServiceError (R138). -/
theorem serve_of_full {e : EventBlock} (h : 3 ≤ e.stack.length) (x : Source) :
    e.serve x = { e with requests := e.requests &&& ~~~x.bit ||| 0x001, deliver := false, level := some x, overflow := true,
                         stack := ⟨e.level, e.permits⟩ :: e.stack.take 2 } := by
  rw [EventBlock.serve, EventBlock.push, if_neg (Nat.not_lt.2 h)]
  rfl

/-- The read of Claim: the block after it, and the vector it returns (R137). -/
theorem exec_claim (s : State) :
    exec .claim s = .next { s with ev := s.ev.claim.1, out := s.out ++ [.readData 0x74 (BitVec.ofNat 32 s.ev.claim.2)] } := by
  rw [← field_zero]; rfl

/-- Complete pops the top frame, restoring level and permits (R139). -/
theorem popFrame_of_cons {e : EventBlock} {f : Frame} {rest : List Frame} (h : e.stack = f :: rest) :
    e.popFrame = { e with stack := rest, level := f.level, permits := f.permits } := by rw [EventBlock.popFrame, h]

/-- Complete on an empty stack goes to idle, sets StackUnderflow and raises ServiceError (R139). -/
theorem popFrame_of_nil {e : EventBlock} (h : e.stack = []) :
    e.popFrame = { e with level := none, underflow := true, requests := e.requests ||| 0x001 } := by
  rw [EventBlock.popFrame, h]; rfl

/-- The write of Complete sets DeliverEnable by its Enable bit, after the pop (R139). -/
theorem exec_complete (v : Word) (s : State) :
    exec (.complete v) s = .next { s with
      ev := { s.ev.popFrame with deliver := if v.getLsbD 0 then true else s.ev.popFrame.deliver }
      out := s.out ++ [.writeDone] } := by
  have hdeliver : (if v.getLsbD 0 then true else s.ev.popFrame.deliver) = (s.ev.popFrame.deliver || v.getLsbD 0) := by
    rw [Bool.or_comm]; cases v.getLsbD 0 <;> rfl
  rw [hdeliver]; rfl

/-- Settles O40: Claim by what it finds and by the room on the stack, Complete by its top frame. -/
theorem claimAndCompleteWorkTheStack : Obligations.ClaimAndCompleteWorkTheStack := by
  refine ⟨fun s => ⟨fun hnothing => ?_, fun x hdeliver hx hmin =>
    ⟨_, fun i hi => getLsbD_clear_bit s.ev.requests x hi, fun hroom => ?_, fun hfull => ?_⟩⟩,
    fun s v => ⟨fun f rest hstack => ?_, fun hempty => ?_⟩⟩
  · rw [exec_claim, claim_of_nothing hnothing]; rfl
  · rw [exec_claim, claim_of_eligible hdeliver hx hmin, serve_of_room hroom]
  · rw [exec_claim, claim_of_eligible hdeliver hx hmin, serve_of_full hfull]
  · rw [exec_complete, popFrame_of_cons hstack]
  · rw [exec_complete, popFrame_of_nil hempty]

/-! ### Sticky flags and mailboxes -/

theorem exec_serviceStatusClear (v : Word) (s : State) :
    exec (.serviceStatusClear v) s = .next { s with ev := s.ev.writeServiceStatus v }.ack := rfl

theorem exec_signalCodeRead (n : AgentId) (s : State) : exec (.signalCodeRead n) s = .next (s.readSignalCode n) := rfl

/-- A SignalCode register: the code, the count from bit 8 and the pending flag in bit 15 (R125, R146). -/
theorem mailboxWord_eq {m : Mailbox} (h : m.count ≤ 15) :
    m.word = BitVec.ofNat 32 (m.code.toNat + m.count * 256 + if m.pending then 0x8000 else 0) := by
  have hpacked : Packed m.word (m.code.toNat + m.count * 2 ^ 8 + if m.pending then 2 ^ 15 else 0) 0 16 :=
    .aboveFlag (.above (.low 8 m.code.isLt (by decide)) 4 (by omega) (by decide)) (by decide)
  rw [← BitVec.setWidth_eq m.word, ← BitVec.ofNat_toNat, hpacked.toNat_eq]; rfl

/-- Settles O41: each sticky flag is a write-one-to-clear bit, and the mailbox is read and cleared. -/
theorem stickyFlagsAndMailboxReads : Obligations.StickyFlagsAndMailboxReads := by
  refine fun s => ⟨fun v => ?_, fun n hcount => ?_⟩
  · rw [exec_serviceStatusClear, EventBlock.writeServiceStatus, w1c_eq, w1c_eq]; rfl
  · rw [exec_signalCodeRead, State.readSignalCode, mailboxWord_eq hcount]; rfl

/-! ### Event detectors -/

/-- A detector goes from the state `d` to `d'`, and its effective level turns from 0 to 1 (R143). -/
abbrev Detector.RisesTo (d d' : Detector) : Prop := d.effective = false ∧ d'.effective = true

/-- A detector changes: its source is raised where the effective level turns from 0 to 1 (R143). -/
theorem changeDetector_eq (e : EventBlock) (p : EvPin) (d : Detector) :
    e.changeDetector p d = { e.setDetector p d with
      requests := if (e.detector p).RisesTo d then e.requests ||| (evSource p).bit else e.requests } := by
  have hrequests : (e.setDetector p d).requests = e.requests := by cases p <;> rfl
  have hrises : (!(e.detector p).effective && d.effective) = true ↔ (e.detector p).RisesTo d := by
    rw [Bool.and_eq_true, Bool.not_eq_true']
  unfold EventBlock.changeDetector
  by_cases h : (e.detector p).RisesTo d
  · rw [if_pos (hrises.2 h), if_pos h, ← hrequests]; rfl
  · rw [if_neg (hrises.not.2 h), if_neg h, ← hrequests]

/-- A candidate becomes the filtered level (R142). -/
theorem settle_of_counting {d : Detector} {cand : Bool} {n : Fin 2} (h : d.filter = .counting cand n) :
    d.settle = { d with filtered := cand, filter := .idle } := by rw [Detector.settle, h]

/-- A change of the filtered level turns the effective level to 1 by the polarity (R143). -/
theorem risesTo_filtered_iff (d : Detector) (cand : Bool) (f : Filter) :
    d.RisesTo { d with filtered := cand, filter := f } ↔
      (d.polarity = .rising ∧ d.filtered = false ∧ cand = true) ∨
        (d.polarity = .falling ∧ d.filtered = true ∧ cand = false) := by
  unfold Detector.RisesTo Detector.effective
  cases d.polarity <;> simp

/-- A change of polarity turns the effective level to 1 where the new polarity fits the filtered level (R143). -/
theorem risesTo_polarity_iff (d : Detector) (p : Polarity) :
    d.RisesTo { d with polarity := p } ↔ d.polarity ≠ p ∧ (p = .rising ↔ d.filtered = true) := by
  unfold Detector.RisesTo Detector.effective
  cases d.polarity <;> cases p <;> simp

theorem exec_evPinChange (p : EvPin) (level : Bool) (s : State) :
    exec (.evPinChange p level) s = .next { s with ev := s.ev.setDetector p ((s.ev.detector p).pinChange level) } := rfl

/-- FILTERED_LEVEL_CHANGE at a filter that holds a candidate (R142, R143). -/
theorem exec_filteredLevelChange_of_counting {s : State} {p : EvPin} {cand : Bool} {n : Fin 2}
    (h : (s.ev.detector p).filter = .counting cand n) :
    exec (.filteredLevelChange p) s = .next { s with ev :=
      { s.ev.setDetector p { s.ev.detector p with filtered := cand, filter := .idle } with
        requests :=
          if ((s.ev.detector p).polarity = .rising ∧ (s.ev.detector p).filtered = false ∧ cand = true) ∨
              ((s.ev.detector p).polarity = .falling ∧ (s.ev.detector p).filtered = true ∧ cand = false)
          then s.ev.requests ||| (evSource p).bit else s.ev.requests } } := by
  have hexec : exec (.filteredLevelChange p) s =
      .next { s with ev := s.ev.changeDetector p (s.ev.detector p).settle } := rfl
  rw [hexec, settle_of_counting h, changeDetector_eq]
  simp only [risesTo_filtered_iff]

/-- A flag set on a condition. -/
theorem ite_or_eq (c : Prop) [Decidable c] (m b : EventMask) : (if c then m ||| b else m) = m ||| if c then b else 0 := by
  split
  · rfl
  · exact BitVec.or_zero.symm

/-- What a write of ExtEventConfig does at one detector. -/
def EventBlock.setPolarity (e : EventBlock) (p : EvPin) (pol : Polarity) : EventBlock :=
  e.changeDetector p { e.detector p with polarity := pol }

/-- ExtEventConfig writes EVA's polarity by bit 0, then EVB's by bit 1 (R143). -/
theorem writeExtConfig_eq (e : EventBlock) (v : Word) :
    e.writeExtConfig v =
      (e.setPolarity .eva (polarityOf (v.getLsbD 0))).setPolarity .evb (polarityOf (v.getLsbD 1)) := rfl

/-- A written polarity raises the detector's source where it turns the effective level to 1 (R143). -/
theorem setPolarity_eq (e : EventBlock) (p : EvPin) (pol : Polarity) :
    e.setPolarity p pol = { e.setDetector p { e.detector p with polarity := pol } with
      requests := e.requests |||
        if (e.detector p).polarity ≠ pol ∧ (pol = .rising ↔ (e.detector p).filtered = true) then (evSource p).bit
        else 0 } := by
  rw [EventBlock.setPolarity, changeDetector_eq]
  simp only [risesTo_polarity_iff, ite_or_eq]

theorem exec_extEventConfig (v : Word) (s : State) :
    exec (.extEventConfig v) s = .next { s with ev := s.ev.writeExtConfig v }.ack := rfl

/-- Settles O42: the pin's change as R142 says it, and the raise by how the effective level turns. -/
theorem detectorsRaiseOnEffectiveLevel : Obligations.DetectorsRaiseOnEffectiveLevel := by
  refine ⟨?_, ?_⟩
  · rintro s level d rfl
    exact ⟨exec_evPinChange .eva level s, exec_evPinChange .evb level s,
      fun _ _ h => exec_filteredLevelChange_of_counting (p := .eva) h,
      fun _ _ h => exec_filteredLevelChange_of_counting (p := .evb) h⟩
  · rintro s v pa pb rfl rfl
    rw [exec_extEventConfig, writeExtConfig_eq, setPolarity_eq, setPolarity_eq]; rfl

/-! ### Agent items that end in their step -/

theorem exec_signal (s : State) : exec .signal s = .next (s.takeNewItem Item.isSignal) := rfl

theorem exec_tagInUse (s : State) : exec .tagInUse s = .next (s.takeNewItem Item.conflict) := rfl

/-- A new agent item row that takes the served head, by what the head's own step is (R29, R86). -/
theorem takeNewItem_of_decided {s u : State} {n : AgentId} {it : Item} {rest : List Item} (h : s.ServesItem n it rest)
    {p : Item → Bool} (hp : p it = true) (hu : (s.afterTaking n rest).decideItem n it = u) :
    s.takeNewItem p = u.serveBacklog := by rw [takeNewItem_serves h, if_pos hp, hu]

theorem isSignal_of_signal {it : Item} {code : Byte} (hc : it.conflict = false) (hb : it.body = .signal code) :
    it.isSignal = true := by rw [Item.isSignal, hc, hb]; rfl

/-- A Signal's step writes the mailbox and answers Done (R11, R145). -/
theorem decideItem_signal (s : State) (n : AgentId) {it : Item} {code : Byte} (hc : it.conflict = false)
    (hb : it.body = .signal code) : s.decideItem n it = (s.signalMailbox n code).respond n it.tag (.done []) := by
  rw [State.decideItem, hc, hb]; rfl

/-- A tag-conflict item's step adds its fault record (R10, R116). -/
theorem decideItem_conflict (s : State) (n : AgentId) {it : Item} (hc : it.conflict = true) :
    s.decideItem n it = s.tagConflict n it := by rw [State.decideItem, if_pos hc]

/-- Settles O13: each row takes the served head, and what the head is decides its step. -/
theorem signalsAndConflictItemsEndInTheirStep : Obligations.SignalsAndConflictItemsEndInTheirStep := by
  refine ⟨fun s n it rest code hserves hc hb => ?_, fun s n it rest hserves hc => ?_⟩
  · have hstep := decideItem_signal (s.afterTaking n rest) n hc hb
    refine ⟨_, ?_, ?_, rfl⟩
    · rw [exec_signal, takeNewItem_of_decided hserves (isSignal_of_signal hc hb) hstep]; rfl
    · rw [exec_newAgentItemStep, takeNewItem_of_decided hserves rfl hstep]; rfl
  · have hstep := decideItem_conflict (s.afterTaking n rest) n hc
    refine ⟨_, ?_, ?_, rfl⟩
    · rw [exec_tagInUse, takeNewItem_of_decided hserves hc hstep]; rfl
    · rw [exec_newAgentItemStep, takeNewItem_of_decided hserves rfl hstep]; rfl

end Sys2Proof.Machine
end

section
/-! The epoch generator and the interval timer: the epoch event and EpochStatus, one tick by mode and count, the writes of the
timer's registers, and one TBCLK period at the divider, the prescaler and the two filters (R142, R143, R149 to R155). -/

namespace Sys2Proof.Machine

/-! ### The epoch event and EpochStatus -/

/-- A flag with a second cause that sets it. -/
theorem or_eq_ite (b c : Bool) : (b || c) = if c then true else b := by cases b <;> cases c <;> rfl

/-- The epoch event: the whole state after it (R25, R149, R150). -/
theorem epochEvent_eq (s : State) :
    s.epochEvent = { s with
      epoch := { s.epoch with
        divider := 0
        count := s.epoch.count + 1
        flag := if s.epoch.armed then true else s.epoch.flag
        readNow := false }
      dp := { s.dp with epoch := some s.epoch.readNow } } := by
  rw [State.epochEvent, or_eq_ite]

theorem exec_epochEvent (s : State) : exec .epochEvent s = .next s.epochEvent := rfl

/-- A packed word, spelt by its number. -/
theorem Packed.eq_ofNat {w : Word} {n lo hi : Nat} (h : Packed w n lo hi) : w = BitVec.ofNat 32 n := by
  rw [← h.toNat_eq, BitVec.ofNat_toNat, BitVec.setWidth_eq]

/-- EpochStatus: the count, Armed in bit 30 and the flag in bit 31 (R125, R151). -/
theorem epochWord_eq (e : EpochGen) :
    e.word = BitVec.ofNat 32
      (e.count.toNat + (if e.armed then 0x40000000 else 0) + if e.flag then 0x80000000 else 0) :=
  (((Packed.low 16 e.count.isLt (by decide)).aboveFlag (by decide)).aboveFlag (by decide)).eq_ofNat

theorem exec_epochStatusRead (sameMoment : Bool) (s : State) :
    exec (.epochStatusRead sameMoment) s = .next (s.readEpochStatus sameMoment) := rfl

/-- Settles O43: the event as a whole state, and the read with the word it returns. -/
theorem epochEventAndStatusRead : Obligations.EpochEventAndStatusRead := by
  refine fun s => ⟨?_, fun sameMoment => ?_⟩
  · rw [exec_epochEvent, epochEvent_eq]
  · rw [exec_epochStatusRead, State.readEpochStatus, epochWord_eq, or_eq_ite]; rfl

/-! ### One tick of the timer -/

section
variable {t : Timer}

/-- The next tick is a FreeRun overflow (R154). -/
theorem Timer.overflows_iff :
    t.overflows = true ↔
      t.count.toNat + 1 ≠ t.compare.toNat ∧ t.mode = .freeRun ∧ t.count.toNat = 4095 := by
  rw [Timer.overflows, Bool.and_eq_true, Bool.and_eq_true, Bool.not_eq_true', ← Bool.not_eq_true, Timer.matches_iff,
    decide_eq_true_iff, decide_eq_true_iff, ← BitVec.toNat_inj, and_assoc]
  rfl

/-- At count 4095 no compare matches (R153, R154). -/
theorem Timer.not_match_of_max (h : t.count.toNat = 4095) : t.count.toNat + 1 ≠ t.compare.toNat := by
  have := t.compare.isLt
  omega

/-- A Modulo tick that matches returns the count to 0 (R154). -/
theorem Timer.tick_of_modulo_match (hmode : t.mode = .modulo) (h : t.count.toNat + 1 = t.compare.toNat) :
    t.tick = { t with count := 0 } := by
  simp only [Timer.tick, hmode, if_pos (t.matches_iff.2 h)]

/-- A Modulo tick at count 4095 returns the count to 0 (R154). -/
theorem Timer.tick_of_modulo_max (hmode : t.mode = .modulo) (h : t.count.toNat = 4095) :
    t.tick = { t with count := 0 } := by
  have hmax : t.count = 4095 := BitVec.eq_of_toNat_eq h
  simp only [Timer.tick, hmode, if_pos hmax, ite_self]

/-- A FreeRun tick that matches brings the count to the compare (R154). -/
theorem Timer.tick_of_freeRun_match (hmode : t.mode = .freeRun) (h : t.count.toNat + 1 = t.compare.toNat) :
    t.tick = { t with count := t.compare } := by
  have hcount : t.count + 1 = t.compare := BitVec.eq_of_toNat_eq <|
    calc (t.count + 1).toNat = (t.count.toNat + 1) % 2 ^ 12 := BitVec.toNat_add ..
      _ = t.count.toNat + 1 := Nat.mod_eq_of_lt (h ▸ t.compare.isLt)
      _ = t.compare.toNat := h
  simp only [Timer.tick, hmode, if_pos (t.matches_iff.2 h), hcount]

/-- A FreeRun tick at count 4095 overflows and stops the timer (R154). -/
theorem Timer.tick_of_freeRun_max (hmode : t.mode = .freeRun) (h : t.count.toNat = 4095) :
    t.tick = { t with overflow := true, run := false } := by
  have hmax : t.count = 4095 := BitVec.eq_of_toNat_eq h
  have hno := t.matches_iff.not.2 (Timer.not_match_of_max h)
  simp only [Timer.tick, hmode, if_neg hno, if_pos hmax]

/-- Any other tick counts up, in either mode (R154). -/
theorem Timer.tick_of_counting (h : t.count.toNat + 1 ≠ t.compare.toNat) (hmax : t.count.toNat ≠ 4095) :
    t.tick = { t with count := t.count + 1 } := by
  have hmax : t.count ≠ 4095 := fun he => hmax (congrArg BitVec.toNat he)
  have hno := t.matches_iff.not.2 h
  cases hmode : t.mode <;> simp only [Timer.tick, hmode, if_neg hno, if_neg hmax]

end

/-- Where no flag is raised the request flags stay (`BitVec.or_zero`, the mask spelt as the statements spell it). -/
theorem or_noFlags (m : EventMask) : m ||| 0 = m := BitVec.or_zero

/-- The flag that one tick of the timer raises, if any: IntervalMatch or TimerOverflow (R154). -/
def Timer.tickFlags (t : Timer) : EventMask :=
  if t.count.toNat + 1 = t.compare.toNat then 0x020
  else if t.mode = .freeRun ∧ t.count.toNat = 4095 then 0x100 else 0

/-- The raises of a tick, as flags (R134, R154). -/
theorem tickRaise_eq (e : EventBlock) (t : Timer) :
    e.tickRaise t = { e with requests := e.requests ||| t.tickFlags } := by
  unfold EventBlock.tickRaise Timer.tickFlags
  by_cases hmatch : t.count.toNat + 1 = t.compare.toNat
  · rw [if_pos (t.matches_iff.2 hmatch), if_pos hmatch]; rfl
  · rw [if_neg (t.matches_iff.not.2 hmatch), if_neg hmatch]
    by_cases hover : t.mode = .freeRun ∧ t.count.toNat = 4095
    · rw [if_pos (Timer.overflows_iff.2 ⟨hmatch, hover⟩), if_pos hover]; rfl
    · rw [if_neg fun h => hover (Timer.overflows_iff.1 h).2, if_neg hover, or_noFlags]

section
variable {t : Timer}

theorem Timer.tickFlags_of_match (h : t.count.toNat + 1 = t.compare.toNat) : t.tickFlags = 0x020 := if_pos h

theorem Timer.tickFlags_of_overflow (hmode : t.mode = .freeRun) (h : t.count.toNat = 4095) : t.tickFlags = 0x100 :=
  (if_neg (Timer.not_match_of_max h)).trans (if_pos ⟨hmode, h⟩)

/-- A tick that neither matches nor overflows raises nothing (R154). -/
theorem Timer.tickFlags_of_quiet (h : t.count.toNat + 1 ≠ t.compare.toNat)
    (hover : ¬ (t.mode = .freeRun ∧ t.count.toNat = 4095)) : t.tickFlags = 0 := (if_neg h).trans (if_neg hover)

end

/-- One tick: the whole state after it, by what it does to the timer and what it raises (R154). -/
theorem tick_eq {s : State} {u : Timer} {m : EventMask} (ht : s.timer.tick = u) (hm : s.timer.tickFlags = m) :
    s.tick = { s with timer := u, ev := { s.ev with requests := s.ev.requests ||| m } } := by
  rw [State.tick, tickRaise_eq, ht, hm]

/-- A tick that raises nothing changes the timer alone (R154). -/
theorem tick_eq_of_quiet {s : State} {u : Timer} (ht : s.timer.tick = u) (hm : s.timer.tickFlags = 0) :
    s.tick = { s with timer := u } := by
  rw [tick_eq ht hm, or_noFlags]

/-- A tick of a running timer clocked by TBCLK also returns the prescaler to 0 (R155). -/
theorem tickWhere_of_tbclkClock {s : State} {p : Timer → Bool} (hrun : s.timer.run = true) (hclock : s.timer.clock ≠ .epoch)
    (ht : p s.timer = true) : s.tickWhere p = s.clockTick := by
  have hticks : (s.timer.run && p s.timer) = true := by rw [hrun, ht]; rfl
  rw [State.tickWhere, if_pos hticks, if_neg hclock]

/-- Settles O47: the tick by mode and count, and each row's condition makes it that tick. -/
theorem timerTickByModeAndCount : Obligations.TimerTickByModeAndCount := by
  refine ⟨fun s => ⟨fun hmode h => ?_, fun hmode h => ?_, fun hmode h => ?_, fun hmode h => ?_, fun h hmax => ?_⟩, ?_⟩
  · exact tick_eq (Timer.tick_of_modulo_match hmode h) (Timer.tickFlags_of_match h)
  · have hmodulo : ¬ (s.timer.mode = .freeRun ∧ s.timer.count.toNat = 4095) := by simp [hmode]
    exact tick_eq_of_quiet (Timer.tick_of_modulo_max hmode h)
      (Timer.tickFlags_of_quiet (Timer.not_match_of_max h) hmodulo)
  · exact tick_eq (Timer.tick_of_freeRun_match hmode h) (Timer.tickFlags_of_match h)
  · exact tick_eq (Timer.tick_of_freeRun_max hmode h) (Timer.tickFlags_of_overflow hmode h)
  · exact tick_eq_of_quiet (Timer.tick_of_counting h hmax) (Timer.tickFlags_of_quiet h fun hover => hmax hover.2)
  · rintro s hrun hclock _ rfl
    have htick {p : Timer → Bool} (ht : p s.timer = true) : s.tickWhere p = s.clockTick :=
      tickWhere_of_tbclkClock hrun hclock ht
    exact ⟨congrArg _ (htick rfl), fun h => congrArg _ (htick (s.timer.matches_iff.2 h)),
      fun hmode h => congrArg _ (htick (Timer.overflows_iff.2 ⟨Timer.not_match_of_max h, hmode, h⟩))⟩

/-! ### The writes of the timer's registers -/

/-- The clock that the low two bits of a word select (R125). -/
theorem clock_of_code {v : Word} {clock : TimerClock} (h : clock.code = v.toNat % 4) :
    TimerClock.ofBits (v.extractLsb' 0 2) = clock := by
  have hbits : v.extractLsb' 0 2 = BitVec.ofNat 2 clock.code := by
    rw [periodSelect_written_iff, ← h, BitVec.toNat_ofNat, Nat.mod_eq_of_lt clock.code_lt]
  rw [hbits]
  cases clock <;> rfl

/-- A write of TimerControl: the whole timer after it, with the one case where the prescaler goes on (R153, R155). -/
theorem writeControl_eq (t : Timer) {v : Word} {clock : TimerClock} (h : clock.code = v.toNat % 4) :
    t.writeControl v = { t with
      count := if v.getLsbD 8 then 0 else t.count
      clock := clock
      mode := if v.getLsbD 5 then .freeRun else .modulo
      run := v.getLsbD 4
      prescaler := if v.getLsbD 8 = false ∧ v.getLsbD 4 = true ∧ t.run = true ∧ clock = t.clock
        then t.prescaler else 0 } := by
  have hrestart :
      (v.getLsbD 8 || !v.getLsbD 4 || !t.run || decide (clock ≠ t.clock)) = true ↔
        ¬ (v.getLsbD 8 = false ∧ v.getLsbD 4 = true ∧ t.run = true ∧ clock = t.clock) := by
    cases v.getLsbD 8 <;> cases v.getLsbD 4 <;> cases t.run <;> simp
  simp only [Timer.writeControl, clock_of_code h, hrestart, ite_not]

/-- The word that RESET_ACTION writes has the Reset action bit (R153). -/
theorem withResetAction_reset (v : Word) : (v ||| 0x100).getLsbD 8 = true := by
  rw [BitVec.getLsbD_or]; exact Bool.or_true _

/-- The word that RESET_ACTION writes has every other bit as given (R153). -/
theorem withResetAction_other (v : Word) {i : Nat} (h : i ≠ 8) : (v ||| 0x100).getLsbD i = v.getLsbD i := by
  have hbit : (0x100 : Word).getLsbD i = false := (bit_getLsbD true 8 i (by decide)).trans (decide_eq_false h)
  rw [BitVec.getLsbD_or, hbit, Bool.or_false]

theorem withResetAction_clock (v : Word) : (v ||| 0x100).toNat % 4 = v.toNat % 4 := by
  rw [BitVec.toNat_or]
  exact (Nat.or_mod_two_pow (n := 2)).trans (Nat.or_zero _)

theorem exec_timerControl (v : Word) (s : State) :
    exec (.timerControl v) s = .next { s with timer := s.timer.writeControl v }.ack := rfl

theorem exec_resetAction (v : Word) (s : State) : exec (.resetAction v) s = exec (.timerControl (v ||| 0x100)) s := rfl

/-- A write of TimerCompare: a value whose bits 11 to 0 are 0 is ignored (R153). -/
theorem writeCompare_eq (t : Timer) (v : Word) :
    t.writeCompare v =
      { t with compare := if v.toNat % 4096 = 0 then t.compare else BitVec.ofNat 12 (v.toNat % 4096) } := by
  have hvalue : v.extractLsb' 0 12 = BitVec.ofNat 12 (v.toNat % 4096) :=
    (extractLsb'_eq_ofNat v 0 12).trans (congrArg (fun n => BitVec.ofNat 12 (n % 4096)) (Nat.div_one _))
  have hzero : v.extractLsb' 0 12 = 0 ↔ v.toNat % 4096 = 0 := by
    rw [← BitVec.toNat_inj, BitVec.extractLsb'_toNat]; rfl
  simp only [Timer.writeCompare, hzero]
  rw [hvalue]
  split <;> rfl

theorem exec_timerCompare (v : Word) (s : State) :
    exec (.timerCompare v) s = .next { s with timer := s.timer.writeCompare v }.ack := rfl

theorem exec_timerStatusClear (v : Word) (setNow : Bool) (s : State) :
    exec (.timerStatusClear v setNow) s = .next { s with timer := s.timer.writeStatus v setNow }.ack := rfl

/-- Settles O48: each write by the fields of its word; RESET_ACTION is TimerControl's write with the Reset action bit set. -/
theorem timerRegisterWrites : Obligations.TimerRegisterWrites := by
  refine fun s v => ⟨?_, ?_, fun setNow => ?_⟩
  · rintro clock reset c hclock (⟨rfl, rfl⟩ | ⟨rfl, rfl⟩)
    · rw [exec_timerControl, writeControl_eq s.timer hclock]; rfl
    · rw [exec_resetAction, exec_timerControl, writeControl_eq s.timer (hclock.trans (withResetAction_clock v).symm)]
      rw [withResetAction_reset, withResetAction_other v (by decide : 4 ≠ 8), withResetAction_other v (by decide : 5 ≠ 8)]
      rfl
  · rw [exec_timerCompare, writeCompare_eq]; rfl
  · rw [exec_timerStatusClear, Timer.writeStatus, w1c_eq]; rfl

/-! ### One TBCLK period -/

theorem step_of_empty {s : State} (h : s.pending = []) : step s = .next s.tbclk := by rw [step, h]

theorem epochPeriod_eq (select : BitVec 2) : epochPeriod select = periodOfSelect select := by
  revert select; decide

theorem TimerClock.period_eq (c : TimerClock) : c.period = periodOfClock c := by cases c <;> rfl

/-- The divider counts a period that does not end the epoch (R149). -/
theorem epochPeriodTick_of_lt {s : State} (h : s.epoch.divider + 1 < periodOfSelect s.config.periodSelect) :
    s.epochPeriodTick = { s with epoch := { s.epoch with divider := s.epoch.divider + 1 } } := by
  rw [State.epochPeriodTick, epochPeriod_eq, if_neg (Nat.not_le.2 h)]

/-- The period that ends the epoch is the epoch event (R149, R150). -/
theorem epochPeriodTick_of_le {s : State} (h : periodOfSelect s.config.periodSelect ≤ s.epoch.divider + 1) :
    s.epochPeriodTick = s.epochEvent := by
  rw [State.epochPeriodTick, epochPeriod_eq, if_pos h]

/-- A period at the divider changes the epoch generator and the pending epoch step only. -/
theorem epochPeriodTick_frame (s : State) :
    s.epochPeriodTick = { s with epoch := s.epochPeriodTick.epoch, dp := s.epochPeriodTick.dp } := by
  unfold State.epochPeriodTick
  split <;> rfl

/-- The timer's clock is TBCLK, and the timer runs (R155). -/
abbrev Timer.Prescaling (t : Timer) : Prop := t.run = true ∧ t.clock ≠ .epoch

/-- This TBCLK period ends a period of the timer's clock (R155). -/
abbrev Timer.TickDue (t : Timer) : Prop := t.run = true ∧ t.clock ≠ .epoch ∧ periodOfClock t.clock ≤ t.prescaler + 1

/-- The timer after one TBCLK period (R155). -/
def Timer.afterPeriod (t : Timer) : Timer :=
  if t.TickDue then Timer.tick { t with prescaler := 0 }
  else if t.Prescaling then { t with prescaler := t.prescaler + 1 }
  else t

/-- The flag that one TBCLK period raises at the timer, if any (R154, R155). -/
def Timer.periodFlags (t : Timer) : EventMask := if t.TickDue then t.tickFlags else 0

section
variable {t : Timer}

theorem Timer.afterPeriod_of_due (h : t.TickDue) : t.afterPeriod = Timer.tick { t with prescaler := 0 } := if_pos h

theorem Timer.afterPeriod_of_lt (h : t.Prescaling) (hlt : t.prescaler + 1 < periodOfClock t.clock) :
    t.afterPeriod = { t with prescaler := t.prescaler + 1 } :=
  (if_neg fun hdue => Nat.not_le.2 hlt hdue.2.2).trans (if_pos h)

/-- A stopped timer and one clocked by epochs take no TBCLK period (R155). -/
theorem Timer.afterPeriod_of_not_prescaling (h : ¬ t.Prescaling) : t.afterPeriod = t :=
  (if_neg fun hdue => h ⟨hdue.1, hdue.2.1⟩).trans (if_neg h)

end

/-- One TBCLK period at the timer: the whole state after it (R154, R155). -/
theorem timerPeriod_eq (s : State) :
    s.timerPeriod = { s with
      timer := s.timer.afterPeriod
      ev := { s.ev with requests := s.ev.requests ||| s.timer.periodFlags } } := by
  have hruns : (s.timer.run && decide (s.timer.clock ≠ .epoch)) = true ↔ s.timer.Prescaling := by
    rw [Bool.and_eq_true, decide_eq_true_iff]
  unfold State.timerPeriod
  rw [TimerClock.period_eq]
  by_cases hpre : s.timer.Prescaling
  · rw [if_pos (hruns.2 hpre)]
    by_cases hle : periodOfClock s.timer.clock ≤ s.timer.prescaler + 1
    · have hdue : s.timer.TickDue := ⟨hpre.1, hpre.2, hle⟩
      rw [if_pos hle, Timer.periodFlags, if_pos hdue, Timer.afterPeriod_of_due hdue]
      exact tick_eq rfl rfl
    · have hdue : ¬ s.timer.TickDue := fun hdue => hle hdue.2.2
      rw [if_neg hle, Timer.periodFlags, if_neg hdue, or_noFlags,
        Timer.afterPeriod_of_lt hpre (Nat.lt_of_not_le hle)]
  · have hdue : ¬ s.timer.TickDue := fun hdue => hpre ⟨hdue.1, hdue.2.1⟩
    rw [if_neg (hruns.not.2 hpre), Timer.periodFlags, if_neg hdue, or_noFlags,
      Timer.afterPeriod_of_not_prescaling hpre]

section
variable {d : Detector}

theorem Detector.period_of_idle (h : d.filter = .idle) : d.period = d := by rw [Detector.period, h]

/-- The first whole period is counted (R142). -/
theorem Detector.period_of_first {level : Bool} (h : d.filter = .counting level 0) :
    d.period = { d with filter := .counting level 1 } := by rw [Detector.period, h]; rfl

/-- The second whole period makes the candidate the filtered level (R142). -/
theorem Detector.period_of_second {level : Bool} (h : d.filter = .counting level 1) :
    d.period = { d with filtered := level, filter := .idle } := by
  rw [← settle_of_counting h, Detector.period, h]; rfl

end

/-- A detector settles in this period on a candidate that turns its effective level to 1 (R142, R143). -/
abbrev Detector.RisesNow (d : Detector) : Prop :=
  (d.polarity = .rising ∧ d.filtered = false ∧ d.filter = .counting true 1) ∨
    (d.polarity = .falling ∧ d.filtered = true ∧ d.filter = .counting false 1)

/-- The effective level does not turn from 0 to 1 where it stays. -/
theorem not_risesTo_of_effective_eq {d d' : Detector} (h : d'.effective = d.effective) : ¬ d.RisesTo d' := by
  rintro ⟨hlow, hhigh⟩
  rw [h, hlow] at hhigh
  exact Bool.false_ne_true hhigh

/-- One whole period turns the effective level to 1 exactly by settling on such a candidate (R142, R143). -/
theorem risesTo_period_iff (d : Detector) : d.RisesTo d.period ↔ d.RisesNow := by
  rcases hf : d.filter with _ | ⟨level, n⟩
  · simp [Detector.period_of_idle hf, Detector.RisesNow, Detector.RisesTo, hf]
  · obtain rfl | rfl : n = 0 ∨ n = 1 := by omega
    · have heff : d.period.effective = d.effective := by rw [Detector.period_of_first hf]; rfl
      simp [not_risesTo_of_effective_eq heff, Detector.RisesNow, hf]
    · rw [Detector.period_of_second hf, risesTo_filtered_iff]
      simp [Detector.RisesNow, hf]

/-- One TBCLK period at a pin's detector: the whole state after it (R142, R143). -/
theorem detectorPeriod_eq (s : State) (p : EvPin) :
    s.detectorPeriod p = { s with ev := { s.ev.setDetector p (s.ev.detector p).period with
      requests := s.ev.requests ||| if (s.ev.detector p).RisesNow then (evSource p).bit else 0 } } := by
  rw [State.detectorPeriod, changeDetector_eq]
  simp only [risesTo_period_iff, ite_or_eq]

/-- One TBCLK period: the whole state after it. -/
theorem tbclk_eq (s : State) :
    s.tbclk = { s with
      epoch := s.epochPeriodTick.epoch
      dp := s.epochPeriodTick.dp
      timer := s.timer.afterPeriod
      ev := { s.ev with
        requests := s.ev.requests ||| s.timer.periodFlags |||
          (if s.ev.eva.RisesNow then 0x002 else 0) ||| if s.ev.evb.RisesNow then 0x080 else 0
        eva := s.ev.eva.period
        evb := s.ev.evb.period } } := by
  rw [State.tbclk, epochPeriodTick_frame, timerPeriod_eq, detectorPeriod_eq, detectorPeriod_eq]; rfl

/-- Settles O2: the whole state of `tbclk_eq`, then the divider, the prescaler and each filter by its own cases. -/
theorem emptyQueuePassesOneTbclkPeriod : Obligations.EmptyQueuePassesOneTbclkPeriod := by
  intro s hpending
  refine ⟨_, (step_of_empty hpending).trans (congrArg _ (tbclk_eq s)), rfl, rfl, rfl, fun hlt => ?_, fun hle => ?_,
    fun hstopped => ?_, fun hrun hclock hlt => ?_, fun hrun hclock hle => ?_, Detector.period_of_idle,
    fun _ => Detector.period_of_first, fun _ => Detector.period_of_second, Detector.period_of_idle,
    fun _ => Detector.period_of_first, fun _ => Detector.period_of_second⟩
  · rw [epochPeriodTick_of_lt hlt]; exact ⟨rfl, rfl⟩
  · rw [epochPeriodTick_of_le hle, epochEvent_eq]; exact ⟨rfl, rfl⟩
  · exact Timer.afterPeriod_of_not_prescaling fun hpre =>
      hstopped.elim (fun h => Bool.false_ne_true (h.symm.trans hpre.1)) hpre.2
  · exact Timer.afterPeriod_of_lt ⟨hrun, hclock⟩ hlt
  · exact Timer.afterPeriod_of_due ⟨hrun, hclock, hle⟩

end Sys2Proof.Machine
end

section
/-! Power-on reset with the reset state that it leaves, and the soft reset from its arming to its end (R20, R158 to R162). -/

namespace Sys2Proof.Machine

/-! ### Power-on reset -/

theorem exec_powerOnReset (pins : Pins) (s : State) :
    exec (.powerOnReset pins) s = .next { State.poweredOn pins with out := s.out, pending := s.pending } := rfl

/-- A vector filled with one value holds it at every index. -/
theorem replicate_getElem_fin {α : Type} {n : Nat} (x : α) (i : Fin n) : (Vector.replicate n x)[i] = x :=
  Vector.getElem_replicate i.isLt

/-- The fields of a context after power-on reset (R37). -/
theorem Context.fields_of_initial {x : Context} (h : x = Context.initial) :
    (∀ i : Fin 4, x.segs[i] = 0 ∧ x.pids[i] = ⟨0, false⟩) ∧ x.privilege = 3 ∧ x.mode = .translated ∧ x.policy = .park ∧
      x.suspended = false := by
  subst h
  exact ⟨fun i => ⟨replicate_getElem_fin 0 i, replicate_getElem_fin _ i⟩, rfl, rfl, rfl, rfl⟩

theorem poweredOn_context (pins : Pins) (c : ContextId) : (State.poweredOn pins).contexts[c] = Context.initial :=
  replicate_getElem_fin ..

theorem poweredOn_binding (pins : Pins) (n : AgentId) : (State.poweredOn pins).bindings[n] = none :=
  replicate_getElem_fin ..

theorem poweredOn_entry (pins : Pins) (i : EntryId) : (State.poweredOn pins).cache.entries[i] = Entry.cleared :=
  replicate_getElem_fin ..

theorem poweredOn_resv (pins : Pins) (n : AgentId) : (State.poweredOn pins).resv[n] = Reservation.cleared :=
  replicate_getElem_fin ..

theorem poweredOn_mailbox (pins : Pins) (n : AgentId) : (State.poweredOn pins).ev.mail[n] = Mailbox.initial :=
  replicate_getElem_fin ..

/-- With no reset pending and nothing to flush, the pins alone fix the state of a port (R13, R20). -/
theorem poweredOn_portState (pins : Pins) (n : AgentId) :
    (State.poweredOn pins).portState n =
      if pins.agrstN.getLsbD n.val = false then .reset else if pins.srstN = false then .held else .opened := by
  have hhold : (State.poweredOn pins).power.hold = !pins.srstN := rfl
  rw [State.portState, poweredOn_port, hhold]
  simp only [Port.initial, Bool.or_false, Bool.not_eq_true', Nat.lt_irrefl, if_false]

/-- Settles O3: each field of `State.poweredOn`, the vectors by index. -/
theorem powerOnResetSetsEveryField : Obligations.PowerOnResetSetsEveryField := by
  intro pins s
  refine ⟨_, exec_powerOnReset pins s, poweredOn_port pins, rfl, rfl, rfl,
    fun c => Context.fields_of_initial (poweredOn_context pins c), poweredOn_binding pins,
    poweredOn_entry pins, rfl, rfl, poweredOn_resv pins, poweredOn_table pins, rfl, rfl, rfl,
    fun i => replicate_getElem_fin 0 i, rfl, rfl, rfl, rfl, ?events⟩
  case events =>
    exact ⟨rfl, rfl, rfl, rfl, rfl, rfl, rfl, rfl, rfl, poweredOn_mailbox pins, rfl, rfl, rfl, rfl, rfl,
      poweredOn_portState pins, rfl, rfl⟩

/-! ### The reset state -/

/-- SRST_N and AGRST_N high, the other pins low (R158). -/
def Pins.atReset : Pins := { srstN := true, agrstN := 0xFF, eva := false, evb := false, portReady := false }

/-- With every AGRST_N high no port is held in reset. -/
theorem poweredOn_atReset : State.poweredOn Pins.atReset = State.reset := by
  have hports : (State.poweredOn Pins.atReset).ports = State.reset.ports := vector_ext fun n => by
    rw [poweredOn_port]
    revert n
    decide
  calc State.poweredOn Pins.atReset
      _ = { State.reset with ports := (State.poweredOn Pins.atReset).ports } := rfl
      _ = State.reset := by rw [hports]

/-- Nothing counts yet after power-on reset (R158). -/
theorem bounded_poweredOn (pins : Pins) : (State.poweredOn pins).Bounded := by
  have hline (n : AgentId) : (State.poweredOn pins).ports[n].line = [] := by rw [poweredOn_port]; rfl
  have hflush (n : AgentId) : (State.poweredOn pins).ports[n].flush = 0 := by rw [poweredOn_port]; rfl
  have hlocal : (State.poweredOn pins).LocalRange := { localRange_poweredOn pins State.reset with }
  refine ⟨(inRange_iff _).2 ⟨fun n => ?_, Nat.zero_le _, ⟨Nat.zero_le _, Nat.zero_le _, nofun⟩, hlocal⟩, fun n => ?_,
    Nat.zero_le _, Nat.zero_le _⟩
  · rw [hline]; exact Nat.zero_le _
  · rw [hflush]; exact Nat.zero_le _

theorem cacheSound_poweredOn (pins : Pins) : (State.poweredOn pins).CacheSound := by
  refine (cacheSound_iff _).2 ⟨fun i j hi => ?_, fun i => ?_⟩
  · rw [poweredOn_entry] at hi
    exact absurd rfl hi
  · rw [poweredOn_entry]
    exact Entry.sound_cleared

theorem reservationsSound_poweredOn (pins : Pins) : (State.poweredOn pins).ReservationsSound := by
  refine (reservationsSound_iff _).2 fun n => ?_
  rw [poweredOn_resv]
  exact Reservation.soundFor_cleared _

/-- Nothing is parked after power-on reset. -/
theorem noneParkedUnderValid_poweredOn (pins : Pins) : (State.poweredOn pins).NoneParkedUnderValid :=
  fun _ _ _ hp => absurd hp List.not_mem_nil

theorem missSound_poweredOn (pins : Pins) : (State.poweredOn pins).PageSetSound ∧ (State.poweredOn pins).ReportsSound :=
  ⟨⟨List.nodup_nil, nofun, nofun, List.Pairwise.nil⟩, ⟨List.nodup_nil, nofun, nofun, nofun, nofun, fun _ => rfl⟩⟩

theorem downstreamSound_poweredOn (pins : Pins) : (State.poweredOn pins).DownstreamSound :=
  downstreamSound_of_empty (fun n => by rw [poweredOn_port]; rfl) rfl (poweredOn_table pins)

theorem tagsSound_poweredOn (pins : Pins) : (State.poweredOn pins).TagsSound :=
  (tagsHeld_nil_iff _).1 <| tagsHeld_of_empty (fun n => by rw [poweredOn_port]; rfl)
    (fun n => by rw [poweredOn_port]; rfl) rfl rfl (poweredOn_table pins)

/-- Settles O4: the invariants hold after power-on reset with any pins, and the reset state is one such state. -/
theorem resetMeetsInvariants : Obligations.ResetMeetsInvariants := by
  rw [Obligations.ResetMeetsInvariants, ← poweredOn_atReset]
  obtain ⟨hset, hreports⟩ := missSound_poweredOn Pins.atReset
  exact ⟨rfl, bounded_poweredOn _, cacheSound_poweredOn _, reservationsSound_poweredOn _, noneParkedUnderValid_poweredOn _,
    hset, hreports, downstreamSound_poweredOn _, tagsSound_poweredOn _⟩

/-! ### Hold and arming -/

theorem cmdArmSoftReset_of_armed {s : State} (h : s.power.resetArmed = true) (a : Vector Word 4) :
    s.cmdArmSoftReset a = s.fails .alreadyPending := if_pos h

theorem cmdArmSoftReset_of_not_armed {s : State} (h : s.power.resetArmed = false) (a : Vector Word 4) :
    s.cmdArmSoftReset a = ⟨{ s with power := { s.power with resetArmed := true } }, .ok, 0, 0⟩ :=
  if_neg (ne_true_of_eq_false h)

/-- Settles O6: SRST_N by the level it had, ArmSoftReset by whether the soft reset is armed. -/
theorem holdAndArming : Obligations.HoldAndArming := by
  intro s
  refine ⟨rfl, fun hheld => congrArg _ (if_pos hheld), fun hheld => congrArg _ (if_neg (ne_true_of_eq_false hheld)),
    fun a hhead => ⟨fun harmed => ?_, fun harmed => ?_⟩⟩
  · exact commandStep_of_body hhead (cmdArmSoftReset_of_armed harmed a)
  · exact commandStep_of_body hhead (cmdArmSoftReset_of_not_armed harmed a)

/-! ### The soft reset -/

/-- The power block after the soft reset: only an Operational device or a high PORT_READY leaves it Operational (R162 steps 7
and 8). -/
theorem Power.afterSoftReset_eq (p : Power) :
    p.afterSoftReset = { p with
      softResetSeen := true
      resetArmed := false
      device := if p.device = .operational ∨ p.portReady = true then .operational else .waking } := by
  by_cases hop : p.device = .operational
  · simp [Power.afterSoftReset, hop]
  · simp [Power.afterSoftReset, Power.toWaking, hop]

/-- The responses of the soft reset: a port in Reset discards its own (R12, R162 step 1). -/
theorem resetAborts_eq (s : State) :
    s.resetAborts =
      (s.resetOrder.filter fun p => s.portState p.1 != .reset).map fun p => .response p.1 p.2 (.fault .resetAbort) := by
  have hsent : (fun p : AgentId × AgentTag => decide (s.portState p.1 ≠ .reset)) = fun p => s.portState p.1 != .reset :=
    funext fun p => by simp [bne, Bool.beq_eq_decide_eq]
  rw [State.resetAborts, hsent]

theorem softReset_resv (s : State) (n : AgentId) : s.softReset.resv[n] = Reservation.cleared :=
  mapIdx_fin (fun _ _ => Reservation.cleared) s.resv n

theorem softReset_mailbox (s : State) (n : AgentId) : s.softReset.ev.mail[n] = Mailbox.initial :=
  replicate_getElem_fin ..

/-- Settles O45: the epoch step that finds the reset due is the soft reset alone. -/
theorem softResetFinishesAndClears : Obligations.SoftResetFinishesAndClears := by
  intro s he harmed hfree
  have hdue : s.softResetDue false = true := (softResetDue_iff s false).2 ⟨harmed, rfl, hfree⟩
  refine ⟨s.dropEpoch.softReset, ?_, ?_, fun n => ⟨softReset_port _ n, softReset_resv _ n, softReset_mailbox _ n⟩, ?_⟩
  · rw [exec_epochStep, takeEpochStep_of_due he hdue]
  · have hpower := s.power.afterSoftReset_eq
    simp only [State.softReset, State.dropEpoch_power, hpower]
    rfl
  · exact congrArg (s.out ++ ·) (resetAborts_eq s.dropEpoch)

end Sys2Proof.Machine
end

section
/-! What a command does to the device state: all but a few rows leave it, and each of those changes it as one transition of R157
(R114, R157, R162 to R165). -/

namespace Sys2Proof.Machine

/-! ### Rows that leave the device state -/

/-- The device state is in `t` what it is in `s`. -/
abbrev State.KeepsDevice (s t : State) : Prop := t.power.device = s.power.device

theorem keepsDevice_of_same {s t : State} (h : s.SameControl t) : s.KeepsDevice t := congrArg Power.device h.power

theorem keepsDevice_of_next {s t u : State} (h : (.next u : Answer) = .next t) (hu : s.KeepsDevice u) : s.KeepsDevice t := by
  cases h; exact hu

theorem State.KeepsDevice.serve {s t : State} (h : s.KeepsDevice t) : s.KeepsDevice t.serveBacklog := h

/-- EnterStandby alone of the commands changes the device state (R131, R163). -/
theorem keepsDevice_commandBody (s : State) {k : Byte} (hstandby : k.toNat ≠ 16) (a : Vector Word 4) :
    s.KeepsDevice (s.commandBody k a).state := by
  by_cases harm : k.toNat = 17
  · have hbody : s.commandBody k = s.cmdArmSoftReset := by simp only [State.commandBody, harm]
    rw [hbody, State.cmdArmSoftReset]
    split <;> rfl
  · exact keepsDevice_of_same (sameControl_commandBody s hstandby harm a)

/-- EnterStandby enters Standby, and finds nothing parked, or changes nothing (R163). -/
theorem cmdEnterStandby_cases (s : State) (a : Vector Word 4) :
    (s.cmdEnterStandby a).state = s ∨
      (s.cmdEnterStandby a).state.power.device = .standby ∧ (s.cmdEnterStandby a).state.miss.parked = [] := by
  by_cases hidle : s.idleForStandby = true
  · obtain ⟨-, hparked, -⟩ := (idleForStandby_iff s).1 hidle
    rw [cmdEnterStandby_of_idle hidle]
    exact .inr ⟨rfl, hparked⟩
  · rw [cmdEnterStandby_of_not_idle hidle]
    exact .inl rfl

/-- The row of every other command than EnterStandby runs the body of another kind (R131). -/
theorem exec_otherCommand_body {c : Instr} (hc : c ∈ hostCommandSteps) (hne : c ≠ .enterStandby) (s : State) :
    ∃ (p : Byte → Bool) (k : Byte), k.toNat ≠ 16 ∧ exec c s = .next (s.commandStep p (s.commandBody k)) := by
  obtain ⟨j, rfl⟩ := List.get_of_mem hc
  induction j using Fin.lastCases with
  | last => exact ⟨badKind, 0, by decide, rfl⟩
  | cast j =>
    have hj : j.val < 17 := j.isLt
    have hkind : (BitVec.ofNat 8 (j.val + 1)).toNat = j.val + 1 := by rw [BitVec.toNat_ofNat]; omega
    refine ⟨_, BitVec.ofNat 8 (j.val + 1), fun hk => hne ?_, exec_commandRow s j hkind⟩
    obtain rfl : j = (15 : Fin 17) := Fin.ext (by rw [hkind] at hk; exact Nat.succ.inj hk)
    rfl

theorem keepsDevice_hostCommand {c : Instr} {s t : State} (h : exec c s = .next t) (hc : c ∈ hostCommandSteps)
    (hne : c ≠ .enterStandby) : s.KeepsDevice t := by
  obtain ⟨p, k, hk, hexec⟩ := exec_otherCommand_body hc hne s
  rw [hexec] at h
  refine keepsDevice_of_next h ?_
  rcases commandStep_cases s p (s.commandBody k) with hsame | ⟨k', a, -, -, hrun⟩
  · rw [hsame]
  · rw [hrun]; exact keepsDevice_commandBody s hk a

/-- A command at whose end the backlog reports a member is no EnterStandby that enters Standby: that one leaves nothing parked
(R86, R163). -/
theorem keepsDevice_servedCommand (s : State) (k : Byte) (a : Vector Word 4)
    (hservable : (State.completeCommand (s.commandBody k a) k).miss.servable = true) :
    s.KeepsDevice (State.completeCommand (s.commandBody k a) k) := by
  rw [State.completeCommand_miss] at hservable
  rw [State.KeepsDevice, State.completeCommand_power]
  by_cases hstandby : k.toNat = 16
  · have hbody : s.commandBody k = s.cmdEnterStandby := by simp only [State.commandBody, hstandby]
    rw [hbody] at hservable ⊢
    rcases cmdEnterStandby_cases s a with hsame | ⟨-, hparked⟩
    · rw [hsame]
    · obtain ⟨-, p, hp, -⟩ := (servable_iff _).1 hservable
      rw [hparked] at hp
      exact absurd hp List.not_mem_nil
  · exact keepsDevice_commandBody s hstandby a

/-- A step that the backlog's service ends keeps the device state (R86). -/
theorem keepsDevice_beforeService {s u : State} (h : s.beforeService = some u) (hservable : u.miss.servable = true) :
    s.KeepsDevice u := by
  unfold State.beforeService at h
  split at h
  case h_1 => split at h <;> cases h; exact keepsDevice_of_same (sameControl_epochDuties s)
  case h_3 => cases h; exact keepsDevice_of_same (sameControl_replayDecided s)
  case h_4 =>
    obtain ⟨e, -, rfl⟩ := Option.map_eq_some_iff.1 h
    exact keepsDevice_servedCommand s e.kind e.args hservable
  case h_5 n hnext =>
    obtain ⟨it, rest, -, -, hline⟩ := servesItem_of_nextStep hnext
    cases h
    unfold State.newItemDecided
    rw [hline]
    exact keepsDevice_of_same (sameControl_newItem s n it rest)
  all_goals cases h

theorem keepsDevice_backlogService {s t : State} (h : execBacklogService s = .next t) : s.KeepsDevice t := by
  rcases execBacklogService_cases s with hsame | ⟨u, hu, hservable, hserve⟩
  · rw [hsame] at h; exact keepsDevice_of_next h rfl
  · rw [hserve] at h; exact keepsDevice_of_next h (keepsDevice_beforeService hu hservable).serve

theorem keepsDevice_downResponse (s : State) (g : GatewayTag) (st : MemStatus) (d : List Byte) :
    s.KeepsDevice (s.downResponse g st d) := by
  rcases downResponse_cases s g st d with h | ⟨r, -, -, ⟨-, h⟩ | ⟨-, h⟩⟩
  · rw [h]
  · rw [h]; rfl
  · rw [h]; exact keepsDevice_of_same ((sameControl_relay s r st d).trans ⟨rfl, rfl, rfl⟩)

/-- The rows that can change the device state (R157). -/
def movesDevice : Instr → Bool
  | .powerOnReset _ | .admission _ _ | .epochStep | .enterStandby | .cmdIssue _ | .portReady _ | .hostAccessError _
  | .registerWrite _ _ => true
  | _ => false

/-- Every other row keeps it. -/
theorem exec_keepsDevice {c : Instr} {s t : State} (h : exec c s = .next t) (hc : movesDevice c = false) :
    s.KeepsDevice t := by
  cases c with
  | powerOnReset | admission | epochStep | enterStandby | cmdIssue | portReady | hostAccessError | registerWrite => cases hc
  | insertAddress | insertRights | purgeEntry | purgeSegment | purgeAll | readEntry | probe | bindAgent | unbindAgent
  | writeContext | readContext | suspendContext | resumeContext | abortParked | clearReservation | armSoftReset
  | badCommand => exact keepsDevice_hostCommand h (by decide) nofun
  | agrstNAssertion n => exact keepsDevice_of_next h (keepsDevice_of_same (sameControl_assertPortReset s n))
  | portResetStep => exact keepsDevice_of_next h (by split <;> rfl)
  | newAgentItemStep | signal | tagInUse => exact keepsDevice_of_next h (keepsDevice_of_same (sameControl_takeNewItem s _))
  | replayStep =>
    refine keepsDevice_of_next h ?_
    split
    · exact keepsDevice_of_same (sameControl_replayDecided s).serve
    · rfl
  | downstreamRequest => exact keepsDevice_of_next h (keepsDevice_of_same (sameControl_sendDownstream s))
  | downstreamResponse g st d => exact keepsDevice_of_next h (keepsDevice_downResponse s g st d)
  | missTimeout | reservationExpiry =>
    refine keepsDevice_of_next h ?_
    split
    · rename_i hcond
      exact keepsDevice_of_same (sameControl_of_ageingStepPending (Bool.and_eq_true_iff.1 hcond).1)
    · rfl
  | backlogService => exact keepsDevice_backlogService h
  | missPop v => exact keepsDevice_of_next h (keepsDevice_of_same ((sameControl_missPop s).trans ⟨rfl, rfl, rfl⟩))
  | timerTick | intervalMatch | timerOverflow =>
    exact keepsDevice_of_next h (keepsDevice_of_same (sameControl_tickWhere s _))
  | srstNHigh => exact keepsDevice_of_next h (by split <;> rfl)
  | agrstNRelease | epochEvent | resultPop | faultPop | cmdDroppedClear | eventRaise | eventClear | eventPermit
  | deliverEnable | claim | complete | serviceStatusClear | extEventConfig | evPinChange | filteredLevelChange
  | signalCodeRead | epochStatusRead | deviceConfig | timerControl | resetAction | timerCompare | timerStatusClear
  | srstNLow => exact keepsDevice_of_next h rfl

/-! ### Rows that wake the device -/

/-- A wake changes the device state in Standby alone, by the level of PORT_READY (R114, R164). -/
theorem Power.woken_of_device_ne {p q : Power} (hq : q = p.woken) (hne : q.device ≠ p.device) :
    p.device = .standby ∧ q.device = if p.portReady then .operational else .waking := by
  subst hq
  by_cases hs : p.device = .standby
  · exact ⟨hs, by rw [Power.woken, if_pos hs]⟩
  · exact absurd (by rw [Power.woken, if_neg hs]) hne

/-- A port that does not admit changes nothing, and one that admits wakes the device (R6, R164). -/
theorem takeIn_power (s : State) (n : AgentId) (m : Message) :
    (s.takeIn n m).power = s.power ∨
      (s.portState n = .opened ∧ s.ports[n].line.length < 4) ∧ (s.takeIn n m).power = s.power.woken := by
  by_cases hadm : s.admits n = true
  · exact .inr ⟨(admits_iff s n).1 hadm, by rw [takeIn_of_admits m hadm]⟩
  · exact .inl (by rw [takeIn_of_not_admits m hadm])

/-- A write of CmdIssue wakes the device, captured or dropped (R127, R164). -/
theorem issueCommand_power (s : State) (v : Word) : (s.issueCommand v).power = s.power.woken := by
  rw [State.issueCommand, State.wake_eq]
  split <;> rfl

theorem writeEffect_power (s : State) {o : BitVec 8} (ho : o ≠ 0x20) (v : Word) : (s.writeEffect o v).power = s.power := by
  unfold State.writeEffect
  split
  case h_6 hoff => exact absurd (offset_eq hoff) ho
  case h_9 => exact (sameControl_missPop s).power
  all_goals rfl

theorem hostRead_power (s : State) (o : BitVec 8) : (s.hostRead o).power = s.power := by
  unfold State.hostRead
  split <;> rfl

/-- A host access leaves the power block, or is a word write of CmdIssue, which wakes the device (R121, R164). -/
theorem hostAccess_power (s : State) (a : HostAccess) :
    (s.hostAccess a).power = s.power ∨
      (a.isWrite = true ∧ a.size = .word ∧ a.offset = 0x20) ∧ (s.hostAccess a).power = s.power.woken := by
  unfold State.hostAccess
  split
  · rename_i haccepted
    split
    · rename_i hwrite
      by_cases ho : a.offset = 0x20
      · refine .inr ⟨⟨hwrite, ((accepted_iff a).1 haccepted).1, ho⟩, ?_⟩
        rw [ho]
        exact issueCommand_power s a.value
      · exact .inl (writeEffect_power s ho a.value)
    · exact .inl (hostRead_power ..)
  · exact .inl rfl

/-! ### The soft reset and PORT_READY -/

/-- The soft reset takes a device in Standby to Waking, or at once to Operational where PORT_READY is high, as it does one in
Waking (R162 step 8). -/
theorem Power.afterSoftReset_device_cases {p : Power} (hne : p.afterSoftReset.device ≠ p.device) :
    (p.device = .standby ∧ p.afterSoftReset.device = if p.portReady then .operational else .waking) ∨
      (p.device = .waking ∧ p.afterSoftReset.device = .operational ∧ p.portReady = true) := by
  rw [Power.afterSoftReset_eq] at hne ⊢
  dsimp only at hne ⊢
  cases hdevice : p.device with
  | operational => exact absurd (by rw [hdevice, if_pos (.inl rfl)]) hne
  | standby => simp
  | waking =>
    cases hready : p.portReady with
    | false => rw [hdevice, hready] at hne; exact absurd rfl hne
    | true => simp

/-- The epoch step changes the device state only where it performs the soft reset (R162). -/
theorem softResets_of_device_ne {s t : State} (h : exec .epochStep s = .next t) (hne : ¬ s.KeepsDevice t) :
    s.SoftResets .epochStep t ∧ t.power = s.power.afterSoftReset := by
  rw [exec_epochStep, Host.Outcome.next.injEq] at h
  subst h
  rcases takeEpochStep_cases s with hsame | ⟨mark, he, hdue, hreset⟩
  · exact absurd (keepsDevice_of_same hsame) hne
  · rw [hreset]
    exact ⟨softResets_of_due he hdue, rfl⟩

/-- PORT_READY changes the device state only where it goes high in Waking (R114). -/
theorem portReady_of_device_ne {level : Bool} {s t : State} (h : exec (.portReady level) s = .next t)
    (hne : ¬ s.KeepsDevice t) : s.power.device = .waking ∧ t.power.device = .operational ∧ level = true := by
  rw [exec_portReady, Host.Outcome.next.injEq] at h
  subst h
  by_cases hwakes : s.power.device = .waking ∧ level = true
  · exact ⟨hwakes.1, if_pos hwakes, hwakes.2⟩
  · exact absurd (if_neg hwakes) hne

/-- ENTER_STANDBY changes the device state only to Standby (R163). -/
theorem enterStandby_of_device_ne {s t : State} (h : exec .enterStandby s = .next t) (hne : ¬ s.KeepsDevice t) :
    t.power.device = .standby := by
  have hstep : Host.Outcome.next (s.commandStep (· == 16) s.cmdEnterStandby) = (.next t : Answer) := h
  rw [Host.Outcome.next.injEq] at hstep
  subst hstep
  rcases commandStep_cases s (· == 16) s.cmdEnterStandby with hsame | ⟨k, a, -, -, hrun⟩
  · exact absurd (by rw [hsame]) hne
  · have hpower : (s.commandStep (· == 16) s.cmdEnterStandby).power = (s.cmdEnterStandby a).state.power := by rw [hrun]; rfl
    rw [State.KeepsDevice, hpower] at hne
    rw [hpower]
    rcases cmdEnterStandby_cases s a with hbusy | ⟨hstandby, -⟩
    · exact absurd (by rw [hbusy]) hne
    · exact hstandby

/-! ### Every transition -/

/-- Settles O60: each row that can change the device state, with the transition of R157 that it makes. -/
theorem deviceStateChangesAsListed : Obligations.DeviceStateChangesAsListed := by
  intro c s t h hne
  cases c with
  | powerOnReset pins => cases h; exact .inl ⟨⟨pins, rfl⟩, rfl⟩
  | enterStandby => exact .inr (.inl ⟨rfl, enterStandby_of_device_ne h hne⟩)
  | admission n m =>
    have hadm : (if m.linkOk then .next (s.takeIn n m) else .fault .linkBroken : Answer) = .next t := h
    split at hadm <;> cases hadm
    rcases takeIn_power s n m with hsame | ⟨⟨hopen, hroom⟩, hwoken⟩
    · exact absurd (congrArg Power.device hsame) hne
    · obtain ⟨hstandby, hdevice⟩ := Power.woken_of_device_ne hwoken hne
      exact .inr (.inr (.inl ⟨hstandby, hdevice, .inl ⟨n, m, rfl, hopen, hroom⟩⟩))
  | cmdIssue v =>
    cases h
    obtain ⟨hstandby, hdevice⟩ := Power.woken_of_device_ne (issueCommand_power s v) hne
    exact .inr (.inr (.inl ⟨hstandby, hdevice, .inr (.inl ⟨v, rfl⟩)⟩))
  | hostAccessError a =>
    cases h
    rcases hostAccess_power s a with hsame | ⟨hissue, hwoken⟩
    · exact absurd (congrArg Power.device hsame) hne
    · obtain ⟨hstandby, hdevice⟩ := Power.woken_of_device_ne hwoken hne
      exact .inr (.inr (.inl ⟨hstandby, hdevice, .inr (.inr (.inl ⟨a, rfl, hissue⟩))⟩))
  | registerWrite o v =>
    cases h
    rcases hostAccess_power s ⟨true, .word, o, v⟩ with hsame | ⟨⟨-, -, rfl⟩, hwoken⟩
    · exact absurd (congrArg Power.device hsame) hne
    · obtain ⟨hstandby, hdevice⟩ := Power.woken_of_device_ne hwoken hne
      exact .inr (.inr (.inl ⟨hstandby, hdevice, .inr (.inr (.inr (.inl ⟨v, rfl⟩)))⟩))
  | epochStep =>
    obtain ⟨hreset, hpower⟩ := softResets_of_device_ne h hne
    rw [hpower] at hne ⊢
    rcases Power.afterSoftReset_device_cases hne with ⟨hstandby, hdevice⟩ | ⟨hwaking, hdevice, hready⟩
    · exact .inr (.inr (.inl ⟨hstandby, hdevice, .inr (.inr (.inr (.inr hreset)))⟩))
    · exact .inr (.inr (.inr ⟨hwaking, hdevice, .inr ⟨hreset, hready⟩⟩))
  | portReady level =>
    obtain ⟨hwaking, hdevice, rfl⟩ := portReady_of_device_ne h hne
    exact .inr (.inr (.inr ⟨hwaking, hdevice, .inl rfl⟩))
  | _ => exact absurd (exec_keepsDevice h rfl) hne

end Sys2Proof.Machine
end
